-- ==== Sys2Proof/Word.lean ====
section
/-! DEFINITION. The word types of the dcc6502 decoder: its three widths of number and nothing else. -/

namespace Sys2Proof

/-- A byte of the buffer, an opcode byte, an operand byte (rule R5, `BYTE_W` = 8). -/
abbrev Byte := BitVec 8

/-- A 16-bit 6502 address: an operand word, a branch target, the offset of a call (rule R5, `OFFSET_W` and `ADDR_W`). -/
abbrev Word := BitVec 16

/-- A cursor as the caller holds it: 17 bits, so that 65536 to 65538 are not wrapped (rules R5 `NEXT_W`, R19, R77). -/
abbrev Cursor := BitVec 17

end Sys2Proof
end

