-- ==== Sys2Proof/Config.lean ====
section
/-! DEFINITION. The constants of the block (rule R5) and the defaults of its open parameters.
The block has no free values: the points the document leaves open are fields of `State` that the caller sets
(the table, the buffer, the bounds, `cycle_en`, the marker), so every claim holds for every value of them. -/

namespace Sys2Proof.Config

/-- `ADDR_BOUND`: the 16-bit address space (rule R5). -/
def addrBound : Nat := 65536

/-- `PAD`: the least number of zero bytes after the logical end of the image (rules R5, R30). -/
def pad : Nat := 2

/-- The default wording of `INVALID_MARKER` (rule R5; decision D10). Nothing depends on the wording. -/
def invalidMarker : String := "INVALID OPCODE !!!"

/-- What a byte of the buffer that no cell lists reads as (assumption log 3). -/
def unlistedByte : Byte := 0

end Sys2Proof.Config
end

