-- ==== Sys2Proof/Syntax.lean ====
section
/-! DEFINITION. The language of the decoder: the thirteen addressing modes, the records of the opcode ROM, and
`Instr`, the one inductive of the 6502 instructions it reads, one constructor per row of spec/opcode_table.json. -/

namespace Sys2Proof

/-- The three encoding formats (rule R50): opcode alone, opcode and one byte, opcode and a two-byte word. -/
inductive Format where
  | f0 | f1 | f2
deriving DecidableEq, Repr

/-- The thirteen addressing modes in the document's order; the type is closed (rule R13). -/
inductive Mode where
  | immediate
  | absolute
  | zeroPage
  | implied
  | indirectAbsolute
  | absoluteIndexedX
  | absoluteIndexedY
  | zeroPageIndexedX
  | zeroPageIndexedY
  | indexedIndirectX
  | indirectIndexedY
  | relative
  | accumulator
deriving DecidableEq, Repr

/-- The `mnemonic` field of a ROM record: a name, or the sentinel `ILLEGAL`, which is not a string and is never
printed (rules R11, R12, R18). That a valid record's name has three upper-case letters is a premise about the ROM
(`RomWellformed`), since the ROM is a parameter. -/
inductive Mnemonic where
  | name (text : String)
  | illegal
deriving DecidableEq, Repr

/-- The `flags` field of a ROM record: a subset of PageCrossPenalty and BranchTakenPenalty; all four subsets are
representable (rule R15). ROM data, not status flags. -/
structure PenaltyFlags where
  pageCross : Bool
  branchTaken : Bool
deriving DecidableEq, Repr

/-- One record of the opcode ROM (rule R11). -/
structure OpcodeEntry where
  mnemonic : Mnemonic
  mode : Mode
  baseCycles : Nat
  flags : PenaltyFlags
  valid : Bool
deriving DecidableEq, Repr

/-- The opcode ROM: exactly 256 records, indexed by the opcode byte (rule R11). -/
abbrev Optab := Vector OpcodeEntry 256

/-- A decoded 6502 instruction: one constructor per row of spec/opcode_table.json, named by mnemonic and mode, with
the operand the row's format gives it (`b` a byte, `d` a Relative displacement, `w` a word). The 105 rows `.byte` are
the undefined opcode bytes of rule R180, named by the byte; they have no operand. Every operand value is legal. -/
inductive Instr where
  -- 43_load_store.md
  | ldaIzx (b : Byte)
  | ldaZp (b : Byte)
  | ldaImm (b : Byte)
  | ldaAbs (w : Word)
  | ldaIzy (b : Byte)
  | ldaZpx (b : Byte)
  | ldaAby (w : Word)
  | ldaAbx (w : Word)
  | ldxImm (b : Byte)
  | ldxZp (b : Byte)
  | ldxAbs (w : Word)
  | ldxZpy (b : Byte)
  | ldxAby (w : Word)
  | ldyImm (b : Byte)
  | ldyZp (b : Byte)
  | ldyAbs (w : Word)
  | ldyZpx (b : Byte)
  | ldyAbx (w : Word)
  | staIzx (b : Byte)
  | staZp (b : Byte)
  | staAbs (w : Word)
  | staIzy (b : Byte)
  | staZpx (b : Byte)
  | staAby (w : Word)
  | staAbx (w : Word)
  | stxZp (b : Byte)
  | stxAbs (w : Word)
  | stxZpy (b : Byte)
  | styZp (b : Byte)
  | styAbs (w : Word)
  | styZpx (b : Byte)
  -- 44_transfer_stack.md
  | tax
  | tay
  | tsx
  | txa
  | txs
  | tya
  | pha
  | php
  | pla
  | plp
  -- 45_arith_logic.md
  | adcIzx (b : Byte)
  | adcZp (b : Byte)
  | adcImm (b : Byte)
  | adcAbs (w : Word)
  | adcIzy (b : Byte)
  | adcZpx (b : Byte)
  | adcAby (w : Word)
  | adcAbx (w : Word)
  | sbcIzx (b : Byte)
  | sbcZp (b : Byte)
  | sbcImm (b : Byte)
  | sbcAbs (w : Word)
  | sbcIzy (b : Byte)
  | sbcZpx (b : Byte)
  | sbcAby (w : Word)
  | sbcAbx (w : Word)
  | andIzx (b : Byte)
  | andZp (b : Byte)
  | andImm (b : Byte)
  | andAbs (w : Word)
  | andIzy (b : Byte)
  | andZpx (b : Byte)
  | andAby (w : Word)
  | andAbx (w : Word)
  | oraIzx (b : Byte)
  | oraZp (b : Byte)
  | oraImm (b : Byte)
  | oraAbs (w : Word)
  | oraIzy (b : Byte)
  | oraZpx (b : Byte)
  | oraAby (w : Word)
  | oraAbx (w : Word)
  | eorIzx (b : Byte)
  | eorZp (b : Byte)
  | eorImm (b : Byte)
  | eorAbs (w : Word)
  | eorIzy (b : Byte)
  | eorZpx (b : Byte)
  | eorAby (w : Word)
  | eorAbx (w : Word)
  | cmpIzx (b : Byte)
  | cmpZp (b : Byte)
  | cmpImm (b : Byte)
  | cmpAbs (w : Word)
  | cmpIzy (b : Byte)
  | cmpZpx (b : Byte)
  | cmpAby (w : Word)
  | cmpAbx (w : Word)
  | cpxImm (b : Byte)
  | cpxZp (b : Byte)
  | cpxAbs (w : Word)
  | cpyImm (b : Byte)
  | cpyZp (b : Byte)
  | cpyAbs (w : Word)
  | bitZp (b : Byte)
  | bitAbs (w : Word)
  -- 46_incdec_shift.md
  | incZp (b : Byte)
  | incAbs (w : Word)
  | incZpx (b : Byte)
  | incAbx (w : Word)
  | inx
  | iny
  | decZp (b : Byte)
  | decAbs (w : Word)
  | decZpx (b : Byte)
  | decAbx (w : Word)
  | dex
  | dey
  | aslZp (b : Byte)
  | aslAcc
  | aslAbs (w : Word)
  | aslZpx (b : Byte)
  | aslAbx (w : Word)
  | lsrZp (b : Byte)
  | lsrAcc
  | lsrAbs (w : Word)
  | lsrZpx (b : Byte)
  | lsrAbx (w : Word)
  | rolZp (b : Byte)
  | rolAcc
  | rolAbs (w : Word)
  | rolZpx (b : Byte)
  | rolAbx (w : Word)
  | rorZp (b : Byte)
  | rorAcc
  | rorAbs (w : Word)
  | rorZpx (b : Byte)
  | rorAbx (w : Word)
  -- 47_branch_jump_system.md
  | bcc (d : Byte)
  | bcs (d : Byte)
  | beq (d : Byte)
  | bmi (d : Byte)
  | bne (d : Byte)
  | bpl (d : Byte)
  | bvc (d : Byte)
  | bvs (d : Byte)
  | jmpAbs (w : Word)
  | jmpInd (w : Word)
  | jsrAbs (w : Word)
  | rts
  | rti
  | brk
  -- 48_flag_nop.md
  | clc
  | cld
  | cli
  | clv
  | sec
  | sed
  | sei
  | nop
  -- 49_undefined_opcodes.md
  | byte02
  | byte03
  | byte04
  | byte07
  | byte0B
  | byte0C
  | byte0F
  | byte12
  | byte13
  | byte14
  | byte17
  | byte1A
  | byte1B
  | byte1C
  | byte1F
  | byte22
  | byte23
  | byte27
  | byte2B
  | byte2F
  | byte32
  | byte33
  | byte34
  | byte37
  | byte3A
  | byte3B
  | byte3C
  | byte3F
  | byte42
  | byte43
  | byte44
  | byte47
  | byte4B
  | byte4F
  | byte52
  | byte53
  | byte54
  | byte57
  | byte5A
  | byte5B
  | byte5C
  | byte5F
  | byte62
  | byte63
  | byte64
  | byte67
  | byte6B
  | byte6F
  | byte72
  | byte73
  | byte74
  | byte77
  | byte7A
  | byte7B
  | byte7C
  | byte7F
  | byte80
  | byte82
  | byte83
  | byte87
  | byte89
  | byte8B
  | byte8F
  | byte92
  | byte93
  | byte97
  | byte9B
  | byte9C
  | byte9E
  | byte9F
  | byteA3
  | byteA7
  | byteAB
  | byteAF
  | byteB2
  | byteB3
  | byteB7
  | byteBB
  | byteBF
  | byteC2
  | byteC3
  | byteC7
  | byteCB
  | byteCF
  | byteD2
  | byteD3
  | byteD4
  | byteD7
  | byteDA
  | byteDB
  | byteDC
  | byteDF
  | byteE2
  | byteE3
  | byteE7
  | byteEB
  | byteEF
  | byteF2
  | byteF3
  | byteF4
  | byteF7
  | byteFA
  | byteFB
  | byteFC
  | byteFF
deriving DecidableEq, Repr

end Sys2Proof
end

