-- ==== Sys2Proof/Decode.lean ====
section
/-! DEFINITION. The decoder from bytes to `Instr`, total on any bytes, and after it the encoder. The opcode map is
written sixteen bytes a row as rule R55 prints it; the whole byte is looked up and never sliced (rule R59). -/

namespace Sys2Proof

/-- The byte that a two-byte operand stores first, at the lower index: the low byte (rule R32, decision D3). -/
def lowByte (w : Word) : Byte := w.extractLsb' 0 8

/-- The byte that a two-byte operand stores second (rule R32). -/
def highByte (w : Word) : Byte := w.extractLsb' 8 8

/-- `hi ∥ lo`: the word of two operand bytes in memory order `lo`, `hi` (rules R32, R53). -/
def wordOf (lo hi : Byte) : Word := hi ++ lo

/-- How one opcode byte goes on (rule R50): the instruction itself (F0), or what its one operand byte (F1) or its
operand word (F2) completes. -/
inductive Shape where
  | f0 (i : Instr)
  | f1 (mk : Byte → Instr)
  | f2 (mk : Word → Instr)

/-- The encoding format of a shape. -/
def Shape.format : Shape → Format
  | .f0 _ => .f0
  | .f1 _ => .f1
  | .f2 _ => .f2

/-- Bytes of operand in a format (rule R50). -/
def Format.operandBytes : Format → Nat
  | .f0 => 0
  | .f1 => 1
  | .f2 => 2

/-- Row 0 of the opcode map (rule R55). -/
def mapRow0 : List Shape := [
  .f0 .brk, .f1 .oraIzx, .f0 .byte02, .f0 .byte03, .f0 .byte04, .f1 .oraZp, .f1 .aslZp, .f0 .byte07,
  .f0 .php, .f1 .oraImm, .f0 .aslAcc, .f0 .byte0B, .f0 .byte0C, .f2 .oraAbs, .f2 .aslAbs, .f0 .byte0F]

/-- Row 1 of the opcode map (rule R55). -/
def mapRow1 : List Shape := [
  .f1 .bpl, .f1 .oraIzy, .f0 .byte12, .f0 .byte13, .f0 .byte14, .f1 .oraZpx, .f1 .aslZpx, .f0 .byte17,
  .f0 .clc, .f2 .oraAby, .f0 .byte1A, .f0 .byte1B, .f0 .byte1C, .f2 .oraAbx, .f2 .aslAbx, .f0 .byte1F]

/-- Row 2 of the opcode map (rule R55). -/
def mapRow2 : List Shape := [
  .f2 .jsrAbs, .f1 .andIzx, .f0 .byte22, .f0 .byte23, .f1 .bitZp, .f1 .andZp, .f1 .rolZp, .f0 .byte27,
  .f0 .plp, .f1 .andImm, .f0 .rolAcc, .f0 .byte2B, .f2 .bitAbs, .f2 .andAbs, .f2 .rolAbs, .f0 .byte2F]

/-- Row 3 of the opcode map (rule R55). -/
def mapRow3 : List Shape := [
  .f1 .bmi, .f1 .andIzy, .f0 .byte32, .f0 .byte33, .f0 .byte34, .f1 .andZpx, .f1 .rolZpx, .f0 .byte37,
  .f0 .sec, .f2 .andAby, .f0 .byte3A, .f0 .byte3B, .f0 .byte3C, .f2 .andAbx, .f2 .rolAbx, .f0 .byte3F]

/-- Row 4 of the opcode map (rule R55). -/
def mapRow4 : List Shape := [
  .f0 .rti, .f1 .eorIzx, .f0 .byte42, .f0 .byte43, .f0 .byte44, .f1 .eorZp, .f1 .lsrZp, .f0 .byte47,
  .f0 .pha, .f1 .eorImm, .f0 .lsrAcc, .f0 .byte4B, .f2 .jmpAbs, .f2 .eorAbs, .f2 .lsrAbs, .f0 .byte4F]

/-- Row 5 of the opcode map (rule R55). -/
def mapRow5 : List Shape := [
  .f1 .bvc, .f1 .eorIzy, .f0 .byte52, .f0 .byte53, .f0 .byte54, .f1 .eorZpx, .f1 .lsrZpx, .f0 .byte57,
  .f0 .cli, .f2 .eorAby, .f0 .byte5A, .f0 .byte5B, .f0 .byte5C, .f2 .eorAbx, .f2 .lsrAbx, .f0 .byte5F]

/-- Row 6 of the opcode map (rule R55). -/
def mapRow6 : List Shape := [
  .f0 .rts, .f1 .adcIzx, .f0 .byte62, .f0 .byte63, .f0 .byte64, .f1 .adcZp, .f1 .rorZp, .f0 .byte67,
  .f0 .pla, .f1 .adcImm, .f0 .rorAcc, .f0 .byte6B, .f2 .jmpInd, .f2 .adcAbs, .f2 .rorAbs, .f0 .byte6F]

/-- Row 7 of the opcode map (rule R55). -/
def mapRow7 : List Shape := [
  .f1 .bvs, .f1 .adcIzy, .f0 .byte72, .f0 .byte73, .f0 .byte74, .f1 .adcZpx, .f1 .rorZpx, .f0 .byte77,
  .f0 .sei, .f2 .adcAby, .f0 .byte7A, .f0 .byte7B, .f0 .byte7C, .f2 .adcAbx, .f2 .rorAbx, .f0 .byte7F]

/-- Row 8 of the opcode map (rule R55). -/
def mapRow8 : List Shape := [
  .f0 .byte80, .f1 .staIzx, .f0 .byte82, .f0 .byte83, .f1 .styZp, .f1 .staZp, .f1 .stxZp, .f0 .byte87,
  .f0 .dey, .f0 .byte89, .f0 .txa, .f0 .byte8B, .f2 .styAbs, .f2 .staAbs, .f2 .stxAbs, .f0 .byte8F]

/-- Row 9 of the opcode map (rule R55). -/
def mapRow9 : List Shape := [
  .f1 .bcc, .f1 .staIzy, .f0 .byte92, .f0 .byte93, .f1 .styZpx, .f1 .staZpx, .f1 .stxZpy, .f0 .byte97,
  .f0 .tya, .f2 .staAby, .f0 .txs, .f0 .byte9B, .f0 .byte9C, .f2 .staAbx, .f0 .byte9E, .f0 .byte9F]

/-- Row A of the opcode map (rule R55). -/
def mapRowA : List Shape := [
  .f1 .ldyImm, .f1 .ldaIzx, .f1 .ldxImm, .f0 .byteA3, .f1 .ldyZp, .f1 .ldaZp, .f1 .ldxZp, .f0 .byteA7,
  .f0 .tay, .f1 .ldaImm, .f0 .tax, .f0 .byteAB, .f2 .ldyAbs, .f2 .ldaAbs, .f2 .ldxAbs, .f0 .byteAF]

/-- Row B of the opcode map (rule R55). -/
def mapRowB : List Shape := [
  .f1 .bcs, .f1 .ldaIzy, .f0 .byteB2, .f0 .byteB3, .f1 .ldyZpx, .f1 .ldaZpx, .f1 .ldxZpy, .f0 .byteB7,
  .f0 .clv, .f2 .ldaAby, .f0 .tsx, .f0 .byteBB, .f2 .ldyAbx, .f2 .ldaAbx, .f2 .ldxAby, .f0 .byteBF]

/-- Row C of the opcode map (rule R55). -/
def mapRowC : List Shape := [
  .f1 .cpyImm, .f1 .cmpIzx, .f0 .byteC2, .f0 .byteC3, .f1 .cpyZp, .f1 .cmpZp, .f1 .decZp, .f0 .byteC7,
  .f0 .iny, .f1 .cmpImm, .f0 .dex, .f0 .byteCB, .f2 .cpyAbs, .f2 .cmpAbs, .f2 .decAbs, .f0 .byteCF]

/-- Row D of the opcode map (rule R55). -/
def mapRowD : List Shape := [
  .f1 .bne, .f1 .cmpIzy, .f0 .byteD2, .f0 .byteD3, .f0 .byteD4, .f1 .cmpZpx, .f1 .decZpx, .f0 .byteD7,
  .f0 .cld, .f2 .cmpAby, .f0 .byteDA, .f0 .byteDB, .f0 .byteDC, .f2 .cmpAbx, .f2 .decAbx, .f0 .byteDF]

/-- Row E of the opcode map (rule R55). -/
def mapRowE : List Shape := [
  .f1 .cpxImm, .f1 .sbcIzx, .f0 .byteE2, .f0 .byteE3, .f1 .cpxZp, .f1 .sbcZp, .f1 .incZp, .f0 .byteE7,
  .f0 .inx, .f1 .sbcImm, .f0 .nop, .f0 .byteEB, .f2 .cpxAbs, .f2 .sbcAbs, .f2 .incAbs, .f0 .byteEF]

/-- Row F of the opcode map (rule R55). -/
def mapRowF : List Shape := [
  .f1 .beq, .f1 .sbcIzy, .f0 .byteF2, .f0 .byteF3, .f0 .byteF4, .f1 .sbcZpx, .f1 .incZpx, .f0 .byteF7,
  .f0 .sed, .f2 .sbcAby, .f0 .byteFA, .f0 .byteFB, .f0 .byteFC, .f2 .sbcAbx, .f2 .incAbx, .f0 .byteFF]

/-- The opcode map, indexed by the opcode byte. -/
def opcodeMap : List Shape :=
  mapRow0 ++ mapRow1 ++ mapRow2 ++ mapRow3 ++ mapRow4 ++ mapRow5 ++ mapRow6 ++ mapRow7 ++
  mapRow8 ++ mapRow9 ++ mapRowA ++ mapRowB ++ mapRowC ++ mapRowD ++ mapRowE ++ mapRowF

theorem opcodeMap_length : opcodeMap.length = 256 := by decide +kernel

/-- The shape of an opcode byte. -/
def shapeOf (op : Byte) : Shape := opcodeMap[op.toNat]'(opcodeMap_length ▸ op.isLt)

/-- The instruction that `op` and the two bytes after it spell; the bytes the format does not need are not looked
at (rule R51: the length depends on the opcode byte alone). -/
def decodeThree (op b0 b1 : Byte) : Instr :=
  match shapeOf op with
  | .f0 i => i
  | .f1 mk => mk b0
  | .f2 mk => mk (wordOf b0 b1)

/-- Why a list of bytes spells no instruction: no byte at all, or fewer operand bytes than the opcode's format has.
No opcode byte is rejected (rule R56). -/
inductive DecodeReject where
  | noOpcode
  | truncated (op : Byte)
deriving DecidableEq, Repr

/-- The first instruction of a list of bytes, and the bytes after it (rules R50, R51, R53). -/
def decode : List Byte → Except DecodeReject (Instr × List Byte)
  | [] => .error .noOpcode
  | op :: rest =>
    match shapeOf op, rest with
    | .f0 i, rest => .ok (i, rest)
    | .f1 mk, b :: rest => .ok (mk b, rest)
    | .f2 mk, lo :: hi :: rest => .ok (mk (wordOf lo hi), rest)
    | .f1 _, [] => .error (.truncated op)
    | .f2 _, [] => .error (.truncated op)
    | .f2 _, [_] => .error (.truncated op)

/-- Byte `k` of an instruction whose bits are `w`, numbered as spec/opcode_table.json numbers them: byte 0 holds bits
7..0; the bits at and above `nbits` are 0. -/
def tableByte (nbits w k : Nat) : Byte := BitVec.ofNat 8 ((w % 2 ^ nbits) >>> (8 * k))

/-- The three bytes, in memory order, of an instruction given as one number (the longest instruction has three). -/
def tableBytes (nbits w : Nat) : List Byte := [tableByte nbits w 0, tableByte nbits w 1, tableByte nbits w 2]

/-- What `decode` reads from an instruction given as one number. -/
def decodeTableWord (nbits w : Nat) : Option Instr :=
  match decode (tableBytes nbits w) with
  | .ok (i, _) => some i
  | .error _ => none

/-- The opcode byte of an instruction: the `match` column of its row of spec/opcode_table.json. -/
def Instr.opcode : Instr → Byte
  | .ldaIzx _ => 0xA1
  | .ldaZp _ => 0xA5
  | .ldaImm _ => 0xA9
  | .ldaAbs _ => 0xAD
  | .ldaIzy _ => 0xB1
  | .ldaZpx _ => 0xB5
  | .ldaAby _ => 0xB9
  | .ldaAbx _ => 0xBD
  | .ldxImm _ => 0xA2
  | .ldxZp _ => 0xA6
  | .ldxAbs _ => 0xAE
  | .ldxZpy _ => 0xB6
  | .ldxAby _ => 0xBE
  | .ldyImm _ => 0xA0
  | .ldyZp _ => 0xA4
  | .ldyAbs _ => 0xAC
  | .ldyZpx _ => 0xB4
  | .ldyAbx _ => 0xBC
  | .staIzx _ => 0x81
  | .staZp _ => 0x85
  | .staAbs _ => 0x8D
  | .staIzy _ => 0x91
  | .staZpx _ => 0x95
  | .staAby _ => 0x99
  | .staAbx _ => 0x9D
  | .stxZp _ => 0x86
  | .stxAbs _ => 0x8E
  | .stxZpy _ => 0x96
  | .styZp _ => 0x84
  | .styAbs _ => 0x8C
  | .styZpx _ => 0x94
  | .tax => 0xAA
  | .tay => 0xA8
  | .tsx => 0xBA
  | .txa => 0x8A
  | .txs => 0x9A
  | .tya => 0x98
  | .pha => 0x48
  | .php => 0x08
  | .pla => 0x68
  | .plp => 0x28
  | .adcIzx _ => 0x61
  | .adcZp _ => 0x65
  | .adcImm _ => 0x69
  | .adcAbs _ => 0x6D
  | .adcIzy _ => 0x71
  | .adcZpx _ => 0x75
  | .adcAby _ => 0x79
  | .adcAbx _ => 0x7D
  | .sbcIzx _ => 0xE1
  | .sbcZp _ => 0xE5
  | .sbcImm _ => 0xE9
  | .sbcAbs _ => 0xED
  | .sbcIzy _ => 0xF1
  | .sbcZpx _ => 0xF5
  | .sbcAby _ => 0xF9
  | .sbcAbx _ => 0xFD
  | .andIzx _ => 0x21
  | .andZp _ => 0x25
  | .andImm _ => 0x29
  | .andAbs _ => 0x2D
  | .andIzy _ => 0x31
  | .andZpx _ => 0x35
  | .andAby _ => 0x39
  | .andAbx _ => 0x3D
  | .oraIzx _ => 0x01
  | .oraZp _ => 0x05
  | .oraImm _ => 0x09
  | .oraAbs _ => 0x0D
  | .oraIzy _ => 0x11
  | .oraZpx _ => 0x15
  | .oraAby _ => 0x19
  | .oraAbx _ => 0x1D
  | .eorIzx _ => 0x41
  | .eorZp _ => 0x45
  | .eorImm _ => 0x49
  | .eorAbs _ => 0x4D
  | .eorIzy _ => 0x51
  | .eorZpx _ => 0x55
  | .eorAby _ => 0x59
  | .eorAbx _ => 0x5D
  | .cmpIzx _ => 0xC1
  | .cmpZp _ => 0xC5
  | .cmpImm _ => 0xC9
  | .cmpAbs _ => 0xCD
  | .cmpIzy _ => 0xD1
  | .cmpZpx _ => 0xD5
  | .cmpAby _ => 0xD9
  | .cmpAbx _ => 0xDD
  | .cpxImm _ => 0xE0
  | .cpxZp _ => 0xE4
  | .cpxAbs _ => 0xEC
  | .cpyImm _ => 0xC0
  | .cpyZp _ => 0xC4
  | .cpyAbs _ => 0xCC
  | .bitZp _ => 0x24
  | .bitAbs _ => 0x2C
  | .incZp _ => 0xE6
  | .incAbs _ => 0xEE
  | .incZpx _ => 0xF6
  | .incAbx _ => 0xFE
  | .inx => 0xE8
  | .iny => 0xC8
  | .decZp _ => 0xC6
  | .decAbs _ => 0xCE
  | .decZpx _ => 0xD6
  | .decAbx _ => 0xDE
  | .dex => 0xCA
  | .dey => 0x88
  | .aslZp _ => 0x06
  | .aslAcc => 0x0A
  | .aslAbs _ => 0x0E
  | .aslZpx _ => 0x16
  | .aslAbx _ => 0x1E
  | .lsrZp _ => 0x46
  | .lsrAcc => 0x4A
  | .lsrAbs _ => 0x4E
  | .lsrZpx _ => 0x56
  | .lsrAbx _ => 0x5E
  | .rolZp _ => 0x26
  | .rolAcc => 0x2A
  | .rolAbs _ => 0x2E
  | .rolZpx _ => 0x36
  | .rolAbx _ => 0x3E
  | .rorZp _ => 0x66
  | .rorAcc => 0x6A
  | .rorAbs _ => 0x6E
  | .rorZpx _ => 0x76
  | .rorAbx _ => 0x7E
  | .bcc _ => 0x90
  | .bcs _ => 0xB0
  | .beq _ => 0xF0
  | .bmi _ => 0x30
  | .bne _ => 0xD0
  | .bpl _ => 0x10
  | .bvc _ => 0x50
  | .bvs _ => 0x70
  | .jmpAbs _ => 0x4C
  | .jmpInd _ => 0x6C
  | .jsrAbs _ => 0x20
  | .rts => 0x60
  | .rti => 0x40
  | .brk => 0x00
  | .clc => 0x18
  | .cld => 0xD8
  | .cli => 0x58
  | .clv => 0xB8
  | .sec => 0x38
  | .sed => 0xF8
  | .sei => 0x78
  | .nop => 0xEA
  | .byte02 => 0x02
  | .byte03 => 0x03
  | .byte04 => 0x04
  | .byte07 => 0x07
  | .byte0B => 0x0B
  | .byte0C => 0x0C
  | .byte0F => 0x0F
  | .byte12 => 0x12
  | .byte13 => 0x13
  | .byte14 => 0x14
  | .byte17 => 0x17
  | .byte1A => 0x1A
  | .byte1B => 0x1B
  | .byte1C => 0x1C
  | .byte1F => 0x1F
  | .byte22 => 0x22
  | .byte23 => 0x23
  | .byte27 => 0x27
  | .byte2B => 0x2B
  | .byte2F => 0x2F
  | .byte32 => 0x32
  | .byte33 => 0x33
  | .byte34 => 0x34
  | .byte37 => 0x37
  | .byte3A => 0x3A
  | .byte3B => 0x3B
  | .byte3C => 0x3C
  | .byte3F => 0x3F
  | .byte42 => 0x42
  | .byte43 => 0x43
  | .byte44 => 0x44
  | .byte47 => 0x47
  | .byte4B => 0x4B
  | .byte4F => 0x4F
  | .byte52 => 0x52
  | .byte53 => 0x53
  | .byte54 => 0x54
  | .byte57 => 0x57
  | .byte5A => 0x5A
  | .byte5B => 0x5B
  | .byte5C => 0x5C
  | .byte5F => 0x5F
  | .byte62 => 0x62
  | .byte63 => 0x63
  | .byte64 => 0x64
  | .byte67 => 0x67
  | .byte6B => 0x6B
  | .byte6F => 0x6F
  | .byte72 => 0x72
  | .byte73 => 0x73
  | .byte74 => 0x74
  | .byte77 => 0x77
  | .byte7A => 0x7A
  | .byte7B => 0x7B
  | .byte7C => 0x7C
  | .byte7F => 0x7F
  | .byte80 => 0x80
  | .byte82 => 0x82
  | .byte83 => 0x83
  | .byte87 => 0x87
  | .byte89 => 0x89
  | .byte8B => 0x8B
  | .byte8F => 0x8F
  | .byte92 => 0x92
  | .byte93 => 0x93
  | .byte97 => 0x97
  | .byte9B => 0x9B
  | .byte9C => 0x9C
  | .byte9E => 0x9E
  | .byte9F => 0x9F
  | .byteA3 => 0xA3
  | .byteA7 => 0xA7
  | .byteAB => 0xAB
  | .byteAF => 0xAF
  | .byteB2 => 0xB2
  | .byteB3 => 0xB3
  | .byteB7 => 0xB7
  | .byteBB => 0xBB
  | .byteBF => 0xBF
  | .byteC2 => 0xC2
  | .byteC3 => 0xC3
  | .byteC7 => 0xC7
  | .byteCB => 0xCB
  | .byteCF => 0xCF
  | .byteD2 => 0xD2
  | .byteD3 => 0xD3
  | .byteD4 => 0xD4
  | .byteD7 => 0xD7
  | .byteDA => 0xDA
  | .byteDB => 0xDB
  | .byteDC => 0xDC
  | .byteDF => 0xDF
  | .byteE2 => 0xE2
  | .byteE3 => 0xE3
  | .byteE7 => 0xE7
  | .byteEB => 0xEB
  | .byteEF => 0xEF
  | .byteF2 => 0xF2
  | .byteF3 => 0xF3
  | .byteF4 => 0xF4
  | .byteF7 => 0xF7
  | .byteFA => 0xFA
  | .byteFB => 0xFB
  | .byteFC => 0xFC
  | .byteFF => 0xFF

/-- The operand bytes of an instruction in memory order: none, one byte, or the low then the high byte of its word
(rules R50, R53). -/
def Instr.operand : Instr → List Byte
  | .ldaIzx b => [b]
  | .ldaZp b => [b]
  | .ldaImm b => [b]
  | .ldaAbs w => [lowByte w, highByte w]
  | .ldaIzy b => [b]
  | .ldaZpx b => [b]
  | .ldaAby w => [lowByte w, highByte w]
  | .ldaAbx w => [lowByte w, highByte w]
  | .ldxImm b => [b]
  | .ldxZp b => [b]
  | .ldxAbs w => [lowByte w, highByte w]
  | .ldxZpy b => [b]
  | .ldxAby w => [lowByte w, highByte w]
  | .ldyImm b => [b]
  | .ldyZp b => [b]
  | .ldyAbs w => [lowByte w, highByte w]
  | .ldyZpx b => [b]
  | .ldyAbx w => [lowByte w, highByte w]
  | .staIzx b => [b]
  | .staZp b => [b]
  | .staAbs w => [lowByte w, highByte w]
  | .staIzy b => [b]
  | .staZpx b => [b]
  | .staAby w => [lowByte w, highByte w]
  | .staAbx w => [lowByte w, highByte w]
  | .stxZp b => [b]
  | .stxAbs w => [lowByte w, highByte w]
  | .stxZpy b => [b]
  | .styZp b => [b]
  | .styAbs w => [lowByte w, highByte w]
  | .styZpx b => [b]
  | .tax => []
  | .tay => []
  | .tsx => []
  | .txa => []
  | .txs => []
  | .tya => []
  | .pha => []
  | .php => []
  | .pla => []
  | .plp => []
  | .adcIzx b => [b]
  | .adcZp b => [b]
  | .adcImm b => [b]
  | .adcAbs w => [lowByte w, highByte w]
  | .adcIzy b => [b]
  | .adcZpx b => [b]
  | .adcAby w => [lowByte w, highByte w]
  | .adcAbx w => [lowByte w, highByte w]
  | .sbcIzx b => [b]
  | .sbcZp b => [b]
  | .sbcImm b => [b]
  | .sbcAbs w => [lowByte w, highByte w]
  | .sbcIzy b => [b]
  | .sbcZpx b => [b]
  | .sbcAby w => [lowByte w, highByte w]
  | .sbcAbx w => [lowByte w, highByte w]
  | .andIzx b => [b]
  | .andZp b => [b]
  | .andImm b => [b]
  | .andAbs w => [lowByte w, highByte w]
  | .andIzy b => [b]
  | .andZpx b => [b]
  | .andAby w => [lowByte w, highByte w]
  | .andAbx w => [lowByte w, highByte w]
  | .oraIzx b => [b]
  | .oraZp b => [b]
  | .oraImm b => [b]
  | .oraAbs w => [lowByte w, highByte w]
  | .oraIzy b => [b]
  | .oraZpx b => [b]
  | .oraAby w => [lowByte w, highByte w]
  | .oraAbx w => [lowByte w, highByte w]
  | .eorIzx b => [b]
  | .eorZp b => [b]
  | .eorImm b => [b]
  | .eorAbs w => [lowByte w, highByte w]
  | .eorIzy b => [b]
  | .eorZpx b => [b]
  | .eorAby w => [lowByte w, highByte w]
  | .eorAbx w => [lowByte w, highByte w]
  | .cmpIzx b => [b]
  | .cmpZp b => [b]
  | .cmpImm b => [b]
  | .cmpAbs w => [lowByte w, highByte w]
  | .cmpIzy b => [b]
  | .cmpZpx b => [b]
  | .cmpAby w => [lowByte w, highByte w]
  | .cmpAbx w => [lowByte w, highByte w]
  | .cpxImm b => [b]
  | .cpxZp b => [b]
  | .cpxAbs w => [lowByte w, highByte w]
  | .cpyImm b => [b]
  | .cpyZp b => [b]
  | .cpyAbs w => [lowByte w, highByte w]
  | .bitZp b => [b]
  | .bitAbs w => [lowByte w, highByte w]
  | .incZp b => [b]
  | .incAbs w => [lowByte w, highByte w]
  | .incZpx b => [b]
  | .incAbx w => [lowByte w, highByte w]
  | .inx => []
  | .iny => []
  | .decZp b => [b]
  | .decAbs w => [lowByte w, highByte w]
  | .decZpx b => [b]
  | .decAbx w => [lowByte w, highByte w]
  | .dex => []
  | .dey => []
  | .aslZp b => [b]
  | .aslAcc => []
  | .aslAbs w => [lowByte w, highByte w]
  | .aslZpx b => [b]
  | .aslAbx w => [lowByte w, highByte w]
  | .lsrZp b => [b]
  | .lsrAcc => []
  | .lsrAbs w => [lowByte w, highByte w]
  | .lsrZpx b => [b]
  | .lsrAbx w => [lowByte w, highByte w]
  | .rolZp b => [b]
  | .rolAcc => []
  | .rolAbs w => [lowByte w, highByte w]
  | .rolZpx b => [b]
  | .rolAbx w => [lowByte w, highByte w]
  | .rorZp b => [b]
  | .rorAcc => []
  | .rorAbs w => [lowByte w, highByte w]
  | .rorZpx b => [b]
  | .rorAbx w => [lowByte w, highByte w]
  | .bcc d => [d]
  | .bcs d => [d]
  | .beq d => [d]
  | .bmi d => [d]
  | .bne d => [d]
  | .bpl d => [d]
  | .bvc d => [d]
  | .bvs d => [d]
  | .jmpAbs w => [lowByte w, highByte w]
  | .jmpInd w => [lowByte w, highByte w]
  | .jsrAbs w => [lowByte w, highByte w]
  | .rts => []
  | .rti => []
  | .brk => []
  | .clc => []
  | .cld => []
  | .cli => []
  | .clv => []
  | .sec => []
  | .sed => []
  | .sei => []
  | .nop => []
  | .byte02 => []
  | .byte03 => []
  | .byte04 => []
  | .byte07 => []
  | .byte0B => []
  | .byte0C => []
  | .byte0F => []
  | .byte12 => []
  | .byte13 => []
  | .byte14 => []
  | .byte17 => []
  | .byte1A => []
  | .byte1B => []
  | .byte1C => []
  | .byte1F => []
  | .byte22 => []
  | .byte23 => []
  | .byte27 => []
  | .byte2B => []
  | .byte2F => []
  | .byte32 => []
  | .byte33 => []
  | .byte34 => []
  | .byte37 => []
  | .byte3A => []
  | .byte3B => []
  | .byte3C => []
  | .byte3F => []
  | .byte42 => []
  | .byte43 => []
  | .byte44 => []
  | .byte47 => []
  | .byte4B => []
  | .byte4F => []
  | .byte52 => []
  | .byte53 => []
  | .byte54 => []
  | .byte57 => []
  | .byte5A => []
  | .byte5B => []
  | .byte5C => []
  | .byte5F => []
  | .byte62 => []
  | .byte63 => []
  | .byte64 => []
  | .byte67 => []
  | .byte6B => []
  | .byte6F => []
  | .byte72 => []
  | .byte73 => []
  | .byte74 => []
  | .byte77 => []
  | .byte7A => []
  | .byte7B => []
  | .byte7C => []
  | .byte7F => []
  | .byte80 => []
  | .byte82 => []
  | .byte83 => []
  | .byte87 => []
  | .byte89 => []
  | .byte8B => []
  | .byte8F => []
  | .byte92 => []
  | .byte93 => []
  | .byte97 => []
  | .byte9B => []
  | .byte9C => []
  | .byte9E => []
  | .byte9F => []
  | .byteA3 => []
  | .byteA7 => []
  | .byteAB => []
  | .byteAF => []
  | .byteB2 => []
  | .byteB3 => []
  | .byteB7 => []
  | .byteBB => []
  | .byteBF => []
  | .byteC2 => []
  | .byteC3 => []
  | .byteC7 => []
  | .byteCB => []
  | .byteCF => []
  | .byteD2 => []
  | .byteD3 => []
  | .byteD4 => []
  | .byteD7 => []
  | .byteDA => []
  | .byteDB => []
  | .byteDC => []
  | .byteDF => []
  | .byteE2 => []
  | .byteE3 => []
  | .byteE7 => []
  | .byteEB => []
  | .byteEF => []
  | .byteF2 => []
  | .byteF3 => []
  | .byteF4 => []
  | .byteF7 => []
  | .byteFA => []
  | .byteFB => []
  | .byteFC => []
  | .byteFF => []

/-- The bytes of an instruction in memory order, the opcode byte at the lowest index (rules R32, R50). -/
def encode (i : Instr) : List Byte := i.opcode :: i.operand

end Sys2Proof
end

