-- ==== Sys2Proof/Machine/Rom.lean ====
section
/-! DEFINITION. The contents of the opcode ROM after reset: the default table, one record per row of
spec/opcode_table.json, sixteen records per row of the opcode map of rule R55. Five records are pinned by the
document; the others are the spec's own (rule R17, decision D15, assumption log 1). -/

namespace Sys2Proof

/-- A valid record without penalty flags (rule R107). -/
def plainEntry (name : String) (mode : Mode) (baseCycles : Nat) : OpcodeEntry :=
  ⟨.name name, mode, baseCycles, ⟨false, false⟩, true⟩

/-- A valid record with PageCrossPenalty alone (rule R109). -/
def pageEntry (name : String) (mode : Mode) (baseCycles : Nat) : OpcodeEntry :=
  ⟨.name name, mode, baseCycles, ⟨true, false⟩, true⟩

/-- A conditional branch: Relative, with both flags (rule R108). -/
def branchEntry (name : String) (baseCycles : Nat) : OpcodeEntry :=
  ⟨.name name, .relative, baseCycles, ⟨true, true⟩, true⟩

/-- The record of an undefined opcode, with the filler fields of rule R18 (decision D11, assumption log 2). -/
def undefinedEntry : OpcodeEntry :=
  ⟨.illegal, .implied, 0, ⟨false, false⟩, false⟩

/-- Opcode bytes 0x00 to 0x0F. -/
def romRow0 : List OpcodeEntry := [
  plainEntry "BRK" .implied 7,
  plainEntry "ORA" .indexedIndirectX 6,
  undefinedEntry,
  undefinedEntry,
  undefinedEntry,
  plainEntry "ORA" .zeroPage 3,
  plainEntry "ASL" .zeroPage 5,
  undefinedEntry,
  plainEntry "PHP" .implied 3,
  plainEntry "ORA" .immediate 2,
  plainEntry "ASL" .accumulator 2,
  undefinedEntry,
  undefinedEntry,
  plainEntry "ORA" .absolute 4,
  plainEntry "ASL" .absolute 6,
  undefinedEntry]

/-- Opcode bytes 0x10 to 0x1F. -/
def romRow1 : List OpcodeEntry := [
  branchEntry "BPL" 2,
  pageEntry "ORA" .indirectIndexedY 5,
  undefinedEntry,
  undefinedEntry,
  undefinedEntry,
  plainEntry "ORA" .zeroPageIndexedX 4,
  plainEntry "ASL" .zeroPageIndexedX 6,
  undefinedEntry,
  plainEntry "CLC" .implied 2,
  pageEntry "ORA" .absoluteIndexedY 4,
  undefinedEntry,
  undefinedEntry,
  undefinedEntry,
  pageEntry "ORA" .absoluteIndexedX 4,
  plainEntry "ASL" .absoluteIndexedX 7,
  undefinedEntry]

/-- Opcode bytes 0x20 to 0x2F. -/
def romRow2 : List OpcodeEntry := [
  plainEntry "JSR" .absolute 6,
  plainEntry "AND" .indexedIndirectX 6,
  undefinedEntry,
  undefinedEntry,
  plainEntry "BIT" .zeroPage 3,
  plainEntry "AND" .zeroPage 3,
  plainEntry "ROL" .zeroPage 5,
  undefinedEntry,
  plainEntry "PLP" .implied 4,
  plainEntry "AND" .immediate 2,
  plainEntry "ROL" .accumulator 2,
  undefinedEntry,
  plainEntry "BIT" .absolute 4,
  plainEntry "AND" .absolute 4,
  plainEntry "ROL" .absolute 6,
  undefinedEntry]

/-- Opcode bytes 0x30 to 0x3F. -/
def romRow3 : List OpcodeEntry := [
  branchEntry "BMI" 2,
  pageEntry "AND" .indirectIndexedY 5,
  undefinedEntry,
  undefinedEntry,
  undefinedEntry,
  plainEntry "AND" .zeroPageIndexedX 4,
  plainEntry "ROL" .zeroPageIndexedX 6,
  undefinedEntry,
  plainEntry "SEC" .implied 2,
  pageEntry "AND" .absoluteIndexedY 4,
  undefinedEntry,
  undefinedEntry,
  undefinedEntry,
  pageEntry "AND" .absoluteIndexedX 4,
  plainEntry "ROL" .absoluteIndexedX 7,
  undefinedEntry]

/-- Opcode bytes 0x40 to 0x4F. -/
def romRow4 : List OpcodeEntry := [
  plainEntry "RTI" .implied 6,
  plainEntry "EOR" .indexedIndirectX 6,
  undefinedEntry,
  undefinedEntry,
  undefinedEntry,
  plainEntry "EOR" .zeroPage 3,
  plainEntry "LSR" .zeroPage 5,
  undefinedEntry,
  plainEntry "PHA" .implied 3,
  plainEntry "EOR" .immediate 2,
  plainEntry "LSR" .accumulator 2,
  undefinedEntry,
  plainEntry "JMP" .absolute 3,
  plainEntry "EOR" .absolute 4,
  plainEntry "LSR" .absolute 6,
  undefinedEntry]

/-- Opcode bytes 0x50 to 0x5F. -/
def romRow5 : List OpcodeEntry := [
  branchEntry "BVC" 2,
  pageEntry "EOR" .indirectIndexedY 5,
  undefinedEntry,
  undefinedEntry,
  undefinedEntry,
  plainEntry "EOR" .zeroPageIndexedX 4,
  plainEntry "LSR" .zeroPageIndexedX 6,
  undefinedEntry,
  plainEntry "CLI" .implied 2,
  pageEntry "EOR" .absoluteIndexedY 4,
  undefinedEntry,
  undefinedEntry,
  undefinedEntry,
  pageEntry "EOR" .absoluteIndexedX 4,
  plainEntry "LSR" .absoluteIndexedX 7,
  undefinedEntry]

/-- Opcode bytes 0x60 to 0x6F. -/
def romRow6 : List OpcodeEntry := [
  plainEntry "RTS" .implied 6,
  plainEntry "ADC" .indexedIndirectX 6,
  undefinedEntry,
  undefinedEntry,
  undefinedEntry,
  plainEntry "ADC" .zeroPage 3,
  plainEntry "ROR" .zeroPage 5,
  undefinedEntry,
  plainEntry "PLA" .implied 4,
  plainEntry "ADC" .immediate 2,
  plainEntry "ROR" .accumulator 2,
  undefinedEntry,
  plainEntry "JMP" .indirectAbsolute 5,
  plainEntry "ADC" .absolute 4,
  plainEntry "ROR" .absolute 6,
  undefinedEntry]

/-- Opcode bytes 0x70 to 0x7F. -/
def romRow7 : List OpcodeEntry := [
  branchEntry "BVS" 2,
  pageEntry "ADC" .indirectIndexedY 5,
  undefinedEntry,
  undefinedEntry,
  undefinedEntry,
  plainEntry "ADC" .zeroPageIndexedX 4,
  plainEntry "ROR" .zeroPageIndexedX 6,
  undefinedEntry,
  plainEntry "SEI" .implied 2,
  pageEntry "ADC" .absoluteIndexedY 4,
  undefinedEntry,
  undefinedEntry,
  undefinedEntry,
  pageEntry "ADC" .absoluteIndexedX 4,
  plainEntry "ROR" .absoluteIndexedX 7,
  undefinedEntry]

/-- Opcode bytes 0x80 to 0x8F. -/
def romRow8 : List OpcodeEntry := [
  undefinedEntry,
  plainEntry "STA" .indexedIndirectX 6,
  undefinedEntry,
  undefinedEntry,
  plainEntry "STY" .zeroPage 3,
  plainEntry "STA" .zeroPage 3,
  plainEntry "STX" .zeroPage 3,
  undefinedEntry,
  plainEntry "DEY" .implied 2,
  undefinedEntry,
  plainEntry "TXA" .implied 2,
  undefinedEntry,
  plainEntry "STY" .absolute 4,
  plainEntry "STA" .absolute 4,
  plainEntry "STX" .absolute 4,
  undefinedEntry]

/-- Opcode bytes 0x90 to 0x9F. -/
def romRow9 : List OpcodeEntry := [
  branchEntry "BCC" 2,
  plainEntry "STA" .indirectIndexedY 6,
  undefinedEntry,
  undefinedEntry,
  plainEntry "STY" .zeroPageIndexedX 4,
  plainEntry "STA" .zeroPageIndexedX 4,
  plainEntry "STX" .zeroPageIndexedY 4,
  undefinedEntry,
  plainEntry "TYA" .implied 2,
  plainEntry "STA" .absoluteIndexedY 5,
  plainEntry "TXS" .implied 2,
  undefinedEntry,
  undefinedEntry,
  plainEntry "STA" .absoluteIndexedX 5,
  undefinedEntry,
  undefinedEntry]

/-- Opcode bytes 0xA0 to 0xAF. -/
def romRowA : List OpcodeEntry := [
  plainEntry "LDY" .immediate 2,
  plainEntry "LDA" .indexedIndirectX 6,
  plainEntry "LDX" .immediate 2,
  undefinedEntry,
  plainEntry "LDY" .zeroPage 3,
  plainEntry "LDA" .zeroPage 3,
  plainEntry "LDX" .zeroPage 3,
  undefinedEntry,
  plainEntry "TAY" .implied 2,
  plainEntry "LDA" .immediate 2,
  plainEntry "TAX" .implied 2,
  undefinedEntry,
  plainEntry "LDY" .absolute 4,
  plainEntry "LDA" .absolute 4,
  plainEntry "LDX" .absolute 4,
  undefinedEntry]

/-- Opcode bytes 0xB0 to 0xBF. -/
def romRowB : List OpcodeEntry := [
  branchEntry "BCS" 2,
  pageEntry "LDA" .indirectIndexedY 5,
  undefinedEntry,
  undefinedEntry,
  plainEntry "LDY" .zeroPageIndexedX 4,
  plainEntry "LDA" .zeroPageIndexedX 4,
  plainEntry "LDX" .zeroPageIndexedY 4,
  undefinedEntry,
  plainEntry "CLV" .implied 2,
  pageEntry "LDA" .absoluteIndexedY 4,
  plainEntry "TSX" .implied 2,
  undefinedEntry,
  pageEntry "LDY" .absoluteIndexedX 4,
  pageEntry "LDA" .absoluteIndexedX 4,
  pageEntry "LDX" .absoluteIndexedY 4,
  undefinedEntry]

/-- Opcode bytes 0xC0 to 0xCF. -/
def romRowC : List OpcodeEntry := [
  plainEntry "CPY" .immediate 2,
  plainEntry "CMP" .indexedIndirectX 6,
  undefinedEntry,
  undefinedEntry,
  plainEntry "CPY" .zeroPage 3,
  plainEntry "CMP" .zeroPage 3,
  plainEntry "DEC" .zeroPage 5,
  undefinedEntry,
  plainEntry "INY" .implied 2,
  plainEntry "CMP" .immediate 2,
  plainEntry "DEX" .implied 2,
  undefinedEntry,
  plainEntry "CPY" .absolute 4,
  plainEntry "CMP" .absolute 4,
  plainEntry "DEC" .absolute 6,
  undefinedEntry]

/-- Opcode bytes 0xD0 to 0xDF. -/
def romRowD : List OpcodeEntry := [
  branchEntry "BNE" 2,
  pageEntry "CMP" .indirectIndexedY 5,
  undefinedEntry,
  undefinedEntry,
  undefinedEntry,
  plainEntry "CMP" .zeroPageIndexedX 4,
  plainEntry "DEC" .zeroPageIndexedX 6,
  undefinedEntry,
  plainEntry "CLD" .implied 2,
  pageEntry "CMP" .absoluteIndexedY 4,
  undefinedEntry,
  undefinedEntry,
  undefinedEntry,
  pageEntry "CMP" .absoluteIndexedX 4,
  plainEntry "DEC" .absoluteIndexedX 7,
  undefinedEntry]

/-- Opcode bytes 0xE0 to 0xEF. -/
def romRowE : List OpcodeEntry := [
  plainEntry "CPX" .immediate 2,
  plainEntry "SBC" .indexedIndirectX 6,
  undefinedEntry,
  undefinedEntry,
  plainEntry "CPX" .zeroPage 3,
  plainEntry "SBC" .zeroPage 3,
  plainEntry "INC" .zeroPage 5,
  undefinedEntry,
  plainEntry "INX" .implied 2,
  plainEntry "SBC" .immediate 2,
  plainEntry "NOP" .implied 2,
  undefinedEntry,
  plainEntry "CPX" .absolute 4,
  plainEntry "SBC" .absolute 4,
  plainEntry "INC" .absolute 6,
  undefinedEntry]

/-- Opcode bytes 0xF0 to 0xFF. -/
def romRowF : List OpcodeEntry := [
  branchEntry "BEQ" 2,
  pageEntry "SBC" .indirectIndexedY 5,
  undefinedEntry,
  undefinedEntry,
  undefinedEntry,
  plainEntry "SBC" .zeroPageIndexedX 4,
  plainEntry "INC" .zeroPageIndexedX 6,
  undefinedEntry,
  plainEntry "SED" .implied 2,
  pageEntry "SBC" .absoluteIndexedY 4,
  undefinedEntry,
  undefinedEntry,
  undefinedEntry,
  pageEntry "SBC" .absoluteIndexedX 4,
  plainEntry "INC" .absoluteIndexedX 7,
  undefinedEntry]

/-- The 256 records in the order of their opcode bytes. -/
def romRecords : List OpcodeEntry :=
  romRow0 ++ romRow1 ++ romRow2 ++ romRow3 ++ romRow4 ++ romRow5 ++ romRow6 ++ romRow7 ++
  romRow8 ++ romRow9 ++ romRowA ++ romRowB ++ romRowC ++ romRowD ++ romRowE ++ romRowF

theorem romRecords_length : romRecords.length = 256 := by decide +kernel

/-- The default `OPTAB` (rule R17 (d)): what the ROM holds after reset (rule R27). -/
def defaultOptab : Optab := ⟨⟨romRecords⟩, romRecords_length⟩

/-- `OPTAB[b]`: the ROM read, total on all 256 bytes (rules R7, R17 (a)). -/
def Optab.get (rom : Optab) (b : Byte) : OpcodeEntry := rom[b.toNat]'(b.isLt)

end Sys2Proof
end

