-- ==== Sys2Proof/Machine/State.lean ====
section
/-! DEFINITION. The state of the machine: the decoder block (its one persistent piece of state, the opcode ROM) and the
caller around it (buffer, cursor, bounds, inputs and the outputs of the calls), as the table of rule R10 lists them;
the reasons a step can stop; and the state after reset (rule R27). -/

namespace Sys2Proof.Machine

/-- The numbers behind a cycle annotation: one number, or a pair best/worst (rules R23, R107 to R109). -/
inductive Cycles where
  | single (n : Nat)
  | pair (n m : Nat)
deriving DecidableEq, Repr

/-- The output record of one `decode` call (rule R23). -/
structure DecodedInstruction where
  /-- the call's `offset` -/
  offset : Word
  /-- the opcode byte -/
  opcode : Byte
  /-- the record's addressing mode -/
  mode : Mode
  /-- the raw operand bytes in memory order -/
  operand : List Byte
  /-- the resolved value of the modes that compute one (rule R99) -/
  resolved : Option Word
  /-- the rendered mnemonic and operand, or `.byte $XX` -/
  text : String
  /-- the one status the block reports: UndefinedOpcode (rule R190) -/
  invalid : Bool
  /-- the numbers of the annotation -/
  cycles : Option Cycles
  /-- the annotation as text (rule R110) -/
  cyclesText : Option String
deriving DecidableEq, Repr

/-- The buffer's contents: cells at strictly rising addresses, none holding `Config.unlistedByte` (which an
unlisted address reads as). -/
abbrev Memory := List Host.Cell

/-- The machine stops with a fault: never (rule R204: "the block cannot fault, loop or wait"). The type is closed and
empty. -/
inductive Fault where
deriving DecidableEq, Repr

/-- The machine gives a call no meaning. -/
inductive Refusal where
  /-- Raised by no arm of `exec`: every instruction has its meaning. Safe. -/
  | notModelled (mnemonic : String)
  /-- Raised by `step` and by every instruction's call when the caller broke the contract of rule R31 (`offset` above
  65535, or fewer than two bytes after it in the buffer): the spec refuses such a call (decision D6). Safe. -/
  | bufferBound
  /-- Raised by an instruction's call when the ROM marks its opcode valid but holds the sentinel as mnemonic: the
  caller's table breaks premise ROM_WELLFORMED (rule R224), and the sentinel is not a string (rule R12). Safe. -/
  | romIllFormed
deriving DecidableEq, Repr

/-- Everything the spec gives the machine: rule R10's table and rule R5's arguments. -/
structure State where
  /-- `OPTAB`, the opcode ROM; nothing in the machine writes it (rules R10, R11, R17) -/
  optab : Optab
  /-- the bytes of `buf`, read only through `Memory.read` (rule R30) -/
  mem : Memory
  /-- `length(buf)`: the physical length, padding included (rules R30, R31) -/
  bufLen : Nat
  /-- `L`: the logical length of the image; the block does not know it (rules R5, R30) -/
  imageLen : Nat
  /-- the start offset the caller chose for its run (rules R5, R77) -/
  start : Cursor
  /-- the cursor, which the spec also calls the program counter (rule R19) -/
  offset : Cursor
  /-- the stop bound of the caller's loop (rules R22, R77) -/
  stop : Cursor
  /-- the cycle-annotation enable given with every `decode` call (rule R22) -/
  cycleEn : Bool
  /-- the `opcode_byte` of a `classify` call the caller has asked for and that is not yet answered (rules R22, R70) -/
  opcodeByte : Option Byte
  /-- `INVALID_MARKER`, the caller's wording of the invalid-opcode marker (rules R5, R190) -/
  invalidMarker : String
  /-- the record the last `decode` call returned (rules R10, R23) -/
  record : Option DecodedInstruction
  /-- the `next_offset` the last `decode` call returned (rules R10, R19) -/
  nextOffset : Option Cursor
  /-- the record the last `classify` call returned (rule R70) -/
  entry : Option OpcodeEntry
  /-- the records the caller's loop has appended, oldest first (rule R77) -/
  lines : List DecodedInstruction
deriving DecidableEq, Repr

/-- What a step answers. -/
abbrev Result := Host.Outcome State Fault Refusal

/-- The machine right after reset, the document's "process start" (rules R27, R210): the ROM holds its table and no
call has been made. The caller's inputs have no reset value in the spec; theirs here are the model's (assumption
logs 3 and 4). -/
def State.reset : State where
  optab := defaultOptab
  mem := []
  bufLen := Config.addrBound + Config.pad
  imageLen := Config.addrBound
  start := 0
  offset := 0
  stop := 0
  cycleEn := false
  opcodeByte := none
  invalidMarker := Config.invalidMarker
  record := none
  nextOffset := none
  entry := none
  lines := []

end Sys2Proof.Machine
end

