-- ==== Sys2Proof/Machine/Operands.lean ====
section
/-! DEFINITION. The addressing-mode dispatch (rules R52 to R54, R58, R85 to R101): operand width, operand bytes,
resolved value and operand text of each of the thirteen modes, one arm a mode and no default arm (rule R100). -/

namespace Sys2Proof

/-- `width(mode)`: the operand byte count (rule R52). -/
def Mode.width : Mode → Nat
  | .immediate => 1
  | .absolute => 2
  | .zeroPage => 1
  | .implied => 0
  | .indirectAbsolute => 2
  | .absoluteIndexedX => 2
  | .absoluteIndexedY => 2
  | .zeroPageIndexedX => 1
  | .zeroPageIndexedY => 1
  | .indexedIndirectX => 1
  | .indirectIndexedY => 1
  | .relative => 1
  | .accumulator => 0

/-- The packed ROM code of a mode (rule R13, decision D16): no behaviour depends on it. -/
def Mode.code : Mode → Nat
  | .immediate => 0
  | .absolute => 1
  | .zeroPage => 2
  | .implied => 3
  | .indirectAbsolute => 4
  | .absoluteIndexedX => 5
  | .absoluteIndexedY => 6
  | .zeroPageIndexedX => 7
  | .zeroPageIndexedY => 8
  | .indexedIndirectX => 9
  | .indirectIndexedY => 10
  | .relative => 11
  | .accumulator => 12

/-- The operand bytes an opcode consumes under its ROM record: the mode's width, and none for an invalid opcode
whatever its `mode` field holds (rule R52). -/
def OpcodeEntry.operandWidth (e : OpcodeEntry) : Nat := if e.valid then e.mode.width else 0

/-- The 56 mnemonics in alphabetical order (rule R12). -/
def mnemonicNames : List String := [
  "ADC", "AND", "ASL", "BCC", "BCS", "BEQ", "BIT", "BMI", "BNE", "BPL", "BRK", "BVC", "BVS", "CLC",
  "CLD", "CLI", "CLV", "CMP", "CPX", "CPY", "DEC", "DEX", "DEY", "EOR", "INC", "INX", "INY", "JMP",
  "JSR", "LDA", "LDX", "LDY", "LSR", "NOP", "ORA", "PHA", "PHP", "PLA", "PLP", "ROL", "ROR", "RTI",
  "RTS", "SBC", "SEC", "SED", "SEI", "STA", "STX", "STY", "TAX", "TAY", "TSX", "TXA", "TXS", "TYA"]

/-- The packed ROM code of a mnemonic (rule R12, decision D16): alphabetical rank, 63 for the sentinel; no code for a
name outside the 56. -/
def Mnemonic.code : Mnemonic → Option Nat
  | .name t => mnemonicNames.idxOf? t
  | .illegal => some 63

namespace Machine

/-- `digit(n)` of rule R98: upper case (decision D7). -/
def hexDigit (n : BitVec 4) : Char :=
  match n.toNat with
  | 0 => '0' | 1 => '1' | 2 => '2' | 3 => '3' | 4 => '4' | 5 => '5' | 6 => '6' | 7 => '7'
  | 8 => '8' | 9 => '9' | 10 => 'A' | 11 => 'B' | 12 => 'C' | 13 => 'D' | 14 => 'E' | _ => 'F'

/-- `hex2(v)`: two digits, with a leading zero (rule R98). -/
def hex2 (v : Byte) : String :=
  String.ofList [hexDigit (v.extractLsb' 4 4), hexDigit (v.extractLsb' 0 4)]

/-- `hex4(v)`: four digits, the high byte first (rule R98). -/
def hex4 (v : Word) : String := hex2 (highByte v) ++ hex2 (lowByte v)

/-- The 16-bit address of the byte after an instruction with `width` operand bytes, reduced mod 65536 (rules R54, R105;
decision D5). -/
def addressAfter (offset : Word) (width : Nat) : Word := offset + 1 + BitVec.ofNat 16 width

/-- The Relative target: the displacement, sign-extended, added to the address after the branch, mod 65536 (rules R54,
R96; decisions D2, D5). -/
def relativeTarget (offset : Word) (b : Byte) : Word := addressAfter offset 1 + b.signExtend 16

/-- The operand bytes a mode takes of the two bytes after the opcode, in memory order (rule R53). -/
def operandBytes (m : Mode) (b0 b1 : Byte) : List Byte := [b0, b1].take m.width

/-- The operand text of a mode; absent for Implied (rules R58, R85 to R97; decision D8). -/
def operandText (m : Mode) (b0 b1 : Byte) (offset : Word) : Option String :=
  match m with
  | .immediate => some ("#$" ++ hex2 b0)
  | .absolute => some ("$" ++ hex4 (wordOf b0 b1))
  | .zeroPage => some ("$" ++ hex2 b0)
  | .implied => none
  | .indirectAbsolute => some ("($" ++ hex4 (wordOf b0 b1) ++ ")")
  | .absoluteIndexedX => some ("$" ++ hex4 (wordOf b0 b1) ++ ",X")
  | .absoluteIndexedY => some ("$" ++ hex4 (wordOf b0 b1) ++ ",Y")
  | .zeroPageIndexedX => some ("$" ++ hex2 b0 ++ ",X")
  | .zeroPageIndexedY => some ("$" ++ hex2 b0 ++ ",Y")
  | .indexedIndirectX => some ("($" ++ hex2 b0 ++ ",X)")
  | .indirectIndexedY => some ("($" ++ hex2 b0 ++ "),Y")
  | .relative => some ("$" ++ hex4 (relativeTarget offset b0))
  | .accumulator => some "A"

/-- The resolved value of a mode: the Relative target, or the operand word of the four modes whose name holds the word
Absolute (rule R99; decision D14). -/
def resolvedValue (m : Mode) (b0 b1 : Byte) (offset : Word) : Option Word :=
  match m with
  | .immediate => none
  | .absolute => some (wordOf b0 b1)
  | .zeroPage => none
  | .implied => none
  | .indirectAbsolute => some (wordOf b0 b1)
  | .absoluteIndexedX => some (wordOf b0 b1)
  | .absoluteIndexedY => some (wordOf b0 b1)
  | .zeroPageIndexedX => none
  | .zeroPageIndexedY => none
  | .indexedIndirectX => none
  | .indirectIndexedY => none
  | .relative => some (relativeTarget offset b0)
  | .accumulator => none

/-- The text of a valid instruction: the mnemonic alone when there is no operand text, else the two with one space
between them (rule R58). -/
def instructionText (name : String) : Option String → String
  | none => name
  | some t => name ++ " " ++ t

/-- The text of an undefined opcode byte (rule R60). -/
def rawByteText (op : Byte) : String := ".byte $" ++ hex2 op

/-- The cursor after an instruction with `width` operand bytes: 17 bits, never wrapped (rule R19, decision D4). -/
def advance (offset : Word) (width : Nat) : Cursor := offset.setWidth 17 + 1 + BitVec.ofNat 17 width

end Machine

end Sys2Proof
end

