-- ==== Sys2Proof/Machine/Flags.lean ====
section
/-! DEFINITION. The cycle-count annotation engine (rules R105 to R114), which reads the penalty flags of a ROM record.
The block has no status flags (rule R21); the "flags" of the spec are these two bits of ROM data. -/

namespace Sys2Proof

/-- The packed ROM code of a flag set: PageCrossPenalty is bit 0, BranchTakenPenalty bit 1 (rule R15, decision D16): no
behaviour depends on it. -/
def PenaltyFlags.code (f : PenaltyFlags) : Nat := f.pageCross.toNat + 2 * f.branchTaken.toNat

namespace Machine

/-- `page(a)`: the high byte of an address (rule R106). -/
def page (a : Word) : Byte := a.extractLsb' 8 8

/-- `crosses(a, t)`: the high bytes differ (rule R106). -/
def crosses (a t : Word) : Bool := page a != page t

/-- The page test of the both-flags case: against the resolved value where there is one, and equal pages where there is
none (rule R108, decision D20). -/
def crossesResolved (after : Word) : Option Word → Bool
  | none => false
  | some t => crosses after t

/-- The numbers of the annotation of a valid record, from its flag set alone and, when both flags are set, the page test
(rules R105, R107 to R109). -/
def annotate (e : OpcodeEntry) (offset : Word) (resolved : Option Word) : Cycles :=
  match e.flags.pageCross, e.flags.branchTaken with
  | false, false => .single e.baseCycles
  | true, true =>
    if crossesResolved (addressAfter offset e.mode.width) resolved then .pair (e.baseCycles + 1) (e.baseCycles + 2)
    else .pair e.baseCycles (e.baseCycles + 1)
  | true, false => .pair e.baseCycles (e.baseCycles + 1)
  | false, true => .pair e.baseCycles (e.baseCycles + 1)

/-- `dec(n)`: the decimal numeral with no leading zero (rule R110). -/
def dec (n : Nat) : String := String.ofList (Nat.toDigits 10 n)

/-- `cycles_text`: `N`, or `N/M` (rule R110, decision D13). -/
def cyclesText : Cycles → String
  | .single n => dec n
  | .pair n m => dec n ++ "/" ++ dec m

end Machine

end Sys2Proof
end

