-- ==== Sys2Proof/Machine/Ops.lean ====
section
/-! DEFINITION. The operations every meaning is built from: the buffer, the contract of a call, the two operations
`classify` and `decode` of the block (rules R70 to R73), and what the caller does with their results (rule R77). -/

namespace Sys2Proof.Machine

/-- The byte at an index of the buffer's contents; an unlisted index reads as `Config.unlistedByte` (rule R30). -/
def Memory.read : Memory → Nat → Byte
  | [], _ => Config.unlistedByte
  | (k, v) :: rest, a => if k = a then v else Memory.read rest a

/-- Store one byte and keep the canonical form. The block itself never writes (rule R34); the caller does (rule R223). -/
def Memory.write : Memory → Nat → Byte → Memory
  | [], a, b => if b = Config.unlistedByte then [] else [(a, b)]
  | (k, v) :: rest, a, b =>
    if a < k then (if b = Config.unlistedByte then (k, v) :: rest else (a, b) :: (k, v) :: rest)
    else if a = k then (if b = Config.unlistedByte then rest else (a, b) :: rest)
    else (k, v) :: Memory.write rest a b

/-- The contents of `bytes` stored from index `a` on. -/
def Memory.writeList (m : Memory) (a : Nat) : List Byte → Memory
  | [] => m
  | b :: rest => Memory.writeList (m.write a b) (a + 1) rest

/-- The cells lie at strictly rising indexes from `lo` on and none holds `Config.unlistedByte`. -/
def Memory.wfFrom : Nat → Memory → Bool
  | _, [] => true
  | lo, (k, v) :: rest => decide (lo ≤ k) && v != Config.unlistedByte && Memory.wfFrom (k + 1) rest

/-- The canonical form of the buffer's contents. -/
def Memory.wf (m : Memory) : Bool := m.wfFrom 0

/-- `MemRead(addr, 1)`, the one memory primitive: refused at and beyond the physical length (rule R31). -/
def State.memRead (s : State) (addr : Nat) : Except Refusal Byte :=
  if s.bufLen ≤ addr then .error .bufferBound else .ok (s.mem.read addr)

/-- The contract of a `decode` call at the cursor (rules R31, R71): the same for every opcode (conflict C1). -/
def State.contract (s : State) : Bool :=
  decide (s.offset.toNat < Config.addrBound) && decide (s.offset.toNat + 2 < s.bufLen)

/-- The cursor as the 16-bit `offset` of a call (rule R19); exact under the contract. -/
def State.offsetWord (s : State) : Word := s.offset.setWidth 16

/-- `MemRead(offset + k, 1)` where the contract holds and `k ≤ 2`. -/
def State.byteAt (s : State) (k : Nat) : Byte := s.mem.read (s.offset.toNat + k)

/-- `classify(opcode_byte)`: the ROM record as it stands, total, reading nothing else (rule R70). -/
def State.classify (s : State) (b : Byte) : OpcodeEntry := s.optab.get b

/-- The one exception, UndefinedOpcode (rules R72, R180, R190, R191): the record of an invalid opcode. It is reported
inline in `invalid`; no state is saved, no control is transferred, and there is no return (rules R195, R196). -/
def undefinedRecord (e : OpcodeEntry) (op : Byte) (offset : Word) : DecodedInstruction where
  offset := offset
  opcode := op
  mode := e.mode
  operand := []
  resolved := none
  text := rawByteText op
  invalid := true
  cycles := none
  cyclesText := none

/-- The record of a valid opcode (rule R73). -/
def validRecord (e : OpcodeEntry) (name : String) (op b0 b1 : Byte) (offset : Word) (cycleEn : Bool) :
    DecodedInstruction where
  offset := offset
  opcode := op
  mode := e.mode
  operand := operandBytes e.mode b0 b1
  resolved := resolvedValue e.mode b0 b1 offset
  text := instructionText name (operandText e.mode b0 b1 offset)
  invalid := false
  cycles := if cycleEn then some (annotate e offset (resolvedValue e.mode b0 b1 offset)) else none
  cyclesText :=
    if cycleEn then some (cyclesText (annotate e offset (resolvedValue e.mode b0 b1 offset))) else none

/-- `decode` once the opcode byte `op`, its ROM record `e` and the two bytes after it are known (rules R71 to R73): the
record and `next_offset`. `none` for a valid record that holds the sentinel, which breaks ROM_WELLFORMED (rule R224). -/
def decodeEntry (e : OpcodeEntry) (op b0 b1 : Byte) (offset : Word) (cycleEn : Bool) :
    Option (DecodedInstruction × Cursor) :=
  if e.valid then
    match e.mnemonic with
    | .name m => some (validRecord e m op b0 b1 offset cycleEn, advance offset e.mode.width)
    | .illegal => none
  else some (undefinedRecord e op offset, advance offset 0)

/-- `decode(buf, offset, cycle_en)` at an offset that meets the `require` line of rule R71, which `State.call` checks for
the cursor. -/
def State.decodeAt (s : State) (offset : Word) : Option (DecodedInstruction × Cursor) :=
  decodeEntry (s.optab.get (s.mem.read offset.toNat)) (s.mem.read offset.toNat)
    (s.mem.read (offset.toNat + 1)) (s.mem.read (offset.toNat + 2)) offset s.cycleEn

/-- The exception code of a record: 1 for UndefinedOpcode, 0 for none (rule R190, decision D21). -/
def DecodedInstruction.errorCode (d : DecodedInstruction) : Nat := d.invalid.toNat

/-- The marker text the caller puts beside a record: `INVALID_MARKER` where `invalid` is 1 (rule R190). -/
def State.markerText (s : State) (d : DecodedInstruction) : Option String :=
  if d.invalid then some s.invalidMarker else none

/-- A `decode` call returns and the caller's loop takes its results: the record is appended and `next_offset` becomes
the cursor (rules R73, R77). -/
def State.deliver (s : State) (d : DecodedInstruction) (next : Cursor) : State :=
  { s with record := some d, nextOffset := some next, offset := next, lines := s.lines ++ [d] }

/-- A pending `classify` call is answered (rule R70): nothing but its result changes. -/
def State.answerClassify (s : State) (b : Byte) : State :=
  { s with opcodeByte := none, entry := some (s.classify b) }

/-- One `decode` call at the cursor for the opcode byte `op` followed by `b0` and `b1`, and its return to the caller's
loop. The order of checks is rule R194's: the contract, then the record's validity, then the valid path. -/
def State.call (s : State) (op b0 b1 : Byte) : Result :=
  if s.contract then
    match decodeEntry (s.optab.get op) op b0 b1 s.offsetWord s.cycleEn with
    | some (d, next) => .next (s.deliver d next)
    | none => .refused .romIllFormed
  else .refused .bufferBound

/-- A call for an instruction of format F0. A ROM that gives its opcode a wider mode makes the call read the further
bytes from the buffer (rule R53; assumption log 5). -/
def callF0 (op : Byte) (s : State) : Result := s.call op (s.byteAt 1) (s.byteAt 2)

/-- A call for an instruction of format F1 with the operand byte `b`. -/
def callF1 (op b : Byte) (s : State) : Result := s.call op b (s.byteAt 2)

/-- A call for an instruction of format F2 with the operand word `w`. -/
def callF2 (op : Byte) (w : Word) (s : State) : Result := s.call op (lowByte w) (highByte w)

/-- The bytes the buffer holds at the cursor, as `step` fetches them. -/
def State.fetchBytes (s : State) : List Byte := [s.byteAt 0, s.byteAt 1, s.byteAt 2]

end Sys2Proof.Machine
end

