-- ==== Sys2Proof/Machine/ArithLogic.lean ====
section
/-! DEFINITION. The meanings of the arithmetic, logic and compare instructions (spec/45_arith_logic.md). To the decoder an
instruction is what one `decode` call prints and returns for it; it executes nothing (rules R4, R20, R21). -/

namespace Sys2Proof.Machine

/-! ### ADC (rule R136) -/

/-- `ADC ($XX,X)`: opcode 0x61, IndexedIndirectX (rules R136, R94, R107). -/
def execAdcIzx (b : Byte) (s : State) : Result := callF1 0x61 b s

/-- `ADC $XX`: opcode 0x65, ZeroPage (rules R136, R87, R107). -/
def execAdcZp (b : Byte) (s : State) : Result := callF1 0x65 b s

/-- `ADC #$XX`: opcode 0x69, Immediate (rules R136, R85, R107). -/
def execAdcImm (b : Byte) (s : State) : Result := callF1 0x69 b s

/-- `ADC $HHLL`: opcode 0x6D, Absolute (rules R136, R86, R107). -/
def execAdcAbs (w : Word) (s : State) : Result := callF2 0x6D w s

/-- `ADC ($XX),Y`: opcode 0x71, IndirectIndexedY (rules R136, R95, R109). -/
def execAdcIzy (b : Byte) (s : State) : Result := callF1 0x71 b s

/-- `ADC $XX,X`: opcode 0x75, ZeroPageIndexedX (rules R136, R92, R107). -/
def execAdcZpx (b : Byte) (s : State) : Result := callF1 0x75 b s

/-- `ADC $HHLL,Y`: opcode 0x79, AbsoluteIndexedY (rules R136, R91, R109). -/
def execAdcAby (w : Word) (s : State) : Result := callF2 0x79 w s

/-- `ADC $HHLL,X`: opcode 0x7D, AbsoluteIndexedX (rules R136, R90, R109). -/
def execAdcAbx (w : Word) (s : State) : Result := callF2 0x7D w s

/-! ### SBC (rule R137) -/

/-- `SBC ($XX,X)`: opcode 0xE1, IndexedIndirectX (rules R137, R94, R107). -/
def execSbcIzx (b : Byte) (s : State) : Result := callF1 0xE1 b s

/-- `SBC $XX`: opcode 0xE5, ZeroPage (rules R137, R87, R107). -/
def execSbcZp (b : Byte) (s : State) : Result := callF1 0xE5 b s

/-- `SBC #$XX`: opcode 0xE9, Immediate (rules R137, R85, R107). -/
def execSbcImm (b : Byte) (s : State) : Result := callF1 0xE9 b s

/-- `SBC $HHLL`: opcode 0xED, Absolute (rules R137, R86, R107). -/
def execSbcAbs (w : Word) (s : State) : Result := callF2 0xED w s

/-- `SBC ($XX),Y`: opcode 0xF1, IndirectIndexedY (rules R137, R95, R109). -/
def execSbcIzy (b : Byte) (s : State) : Result := callF1 0xF1 b s

/-- `SBC $XX,X`: opcode 0xF5, ZeroPageIndexedX (rules R137, R92, R107). -/
def execSbcZpx (b : Byte) (s : State) : Result := callF1 0xF5 b s

/-- `SBC $HHLL,Y`: opcode 0xF9, AbsoluteIndexedY (rules R137, R91, R109). -/
def execSbcAby (w : Word) (s : State) : Result := callF2 0xF9 w s

/-- `SBC $HHLL,X`: opcode 0xFD, AbsoluteIndexedX (rules R137, R90, R109). -/
def execSbcAbx (w : Word) (s : State) : Result := callF2 0xFD w s

/-! ### AND (rule R138) -/

/-- `AND ($XX,X)`: opcode 0x21, IndexedIndirectX (rules R138, R94, R107). -/
def execAndIzx (b : Byte) (s : State) : Result := callF1 0x21 b s

/-- `AND $XX`: opcode 0x25, ZeroPage (rules R138, R87, R107). -/
def execAndZp (b : Byte) (s : State) : Result := callF1 0x25 b s

/-- `AND #$XX`: opcode 0x29, Immediate (rules R138, R85, R107). -/
def execAndImm (b : Byte) (s : State) : Result := callF1 0x29 b s

/-- `AND $HHLL`: opcode 0x2D, Absolute (rules R138, R86, R107). -/
def execAndAbs (w : Word) (s : State) : Result := callF2 0x2D w s

/-- `AND ($XX),Y`: opcode 0x31, IndirectIndexedY (rules R138, R95, R109). -/
def execAndIzy (b : Byte) (s : State) : Result := callF1 0x31 b s

/-- `AND $XX,X`: opcode 0x35, ZeroPageIndexedX (rules R138, R92, R107). -/
def execAndZpx (b : Byte) (s : State) : Result := callF1 0x35 b s

/-- `AND $HHLL,Y`: opcode 0x39, AbsoluteIndexedY (rules R138, R91, R109). -/
def execAndAby (w : Word) (s : State) : Result := callF2 0x39 w s

/-- `AND $HHLL,X`: opcode 0x3D, AbsoluteIndexedX (rules R138, R90, R109). -/
def execAndAbx (w : Word) (s : State) : Result := callF2 0x3D w s

/-! ### ORA (rule R139) -/

/-- `ORA ($XX,X)`: opcode 0x01, IndexedIndirectX (rules R139, R94, R107). -/
def execOraIzx (b : Byte) (s : State) : Result := callF1 0x01 b s

/-- `ORA $XX`: opcode 0x05, ZeroPage (rules R139, R87, R107). -/
def execOraZp (b : Byte) (s : State) : Result := callF1 0x05 b s

/-- `ORA #$XX`: opcode 0x09, Immediate (rules R139, R85, R107). -/
def execOraImm (b : Byte) (s : State) : Result := callF1 0x09 b s

/-- `ORA $HHLL`: opcode 0x0D, Absolute (rules R139, R86, R107). -/
def execOraAbs (w : Word) (s : State) : Result := callF2 0x0D w s

/-- `ORA ($XX),Y`: opcode 0x11, IndirectIndexedY (rules R139, R95, R109). -/
def execOraIzy (b : Byte) (s : State) : Result := callF1 0x11 b s

/-- `ORA $XX,X`: opcode 0x15, ZeroPageIndexedX (rules R139, R92, R107). -/
def execOraZpx (b : Byte) (s : State) : Result := callF1 0x15 b s

/-- `ORA $HHLL,Y`: opcode 0x19, AbsoluteIndexedY (rules R139, R91, R109). -/
def execOraAby (w : Word) (s : State) : Result := callF2 0x19 w s

/-- `ORA $HHLL,X`: opcode 0x1D, AbsoluteIndexedX (rules R139, R90, R109). -/
def execOraAbx (w : Word) (s : State) : Result := callF2 0x1D w s

/-! ### EOR (rule R140) -/

/-- `EOR ($XX,X)`: opcode 0x41, IndexedIndirectX (rules R140, R94, R107). -/
def execEorIzx (b : Byte) (s : State) : Result := callF1 0x41 b s

/-- `EOR $XX`: opcode 0x45, ZeroPage (rules R140, R87, R107). -/
def execEorZp (b : Byte) (s : State) : Result := callF1 0x45 b s

/-- `EOR #$XX`: opcode 0x49, Immediate (rules R140, R85, R107). -/
def execEorImm (b : Byte) (s : State) : Result := callF1 0x49 b s

/-- `EOR $HHLL`: opcode 0x4D, Absolute (rules R140, R86, R107). -/
def execEorAbs (w : Word) (s : State) : Result := callF2 0x4D w s

/-- `EOR ($XX),Y`: opcode 0x51, IndirectIndexedY (rules R140, R95, R109). -/
def execEorIzy (b : Byte) (s : State) : Result := callF1 0x51 b s

/-- `EOR $XX,X`: opcode 0x55, ZeroPageIndexedX (rules R140, R92, R107). -/
def execEorZpx (b : Byte) (s : State) : Result := callF1 0x55 b s

/-- `EOR $HHLL,Y`: opcode 0x59, AbsoluteIndexedY (rules R140, R91, R109). -/
def execEorAby (w : Word) (s : State) : Result := callF2 0x59 w s

/-- `EOR $HHLL,X`: opcode 0x5D, AbsoluteIndexedX (rules R140, R90, R109). -/
def execEorAbx (w : Word) (s : State) : Result := callF2 0x5D w s

/-! ### CMP (rule R141) -/

/-- `CMP ($XX,X)`: opcode 0xC1, IndexedIndirectX (rules R141, R94, R107). -/
def execCmpIzx (b : Byte) (s : State) : Result := callF1 0xC1 b s

/-- `CMP $XX`: opcode 0xC5, ZeroPage (rules R141, R87, R107). -/
def execCmpZp (b : Byte) (s : State) : Result := callF1 0xC5 b s

/-- `CMP #$XX`: opcode 0xC9, Immediate (rules R141, R85, R107). -/
def execCmpImm (b : Byte) (s : State) : Result := callF1 0xC9 b s

/-- `CMP $HHLL`: opcode 0xCD, Absolute (rules R141, R86, R107). -/
def execCmpAbs (w : Word) (s : State) : Result := callF2 0xCD w s

/-- `CMP ($XX),Y`: opcode 0xD1, IndirectIndexedY (rules R141, R95, R109). -/
def execCmpIzy (b : Byte) (s : State) : Result := callF1 0xD1 b s

/-- `CMP $XX,X`: opcode 0xD5, ZeroPageIndexedX (rules R141, R92, R107). -/
def execCmpZpx (b : Byte) (s : State) : Result := callF1 0xD5 b s

/-- `CMP $HHLL,Y`: opcode 0xD9, AbsoluteIndexedY (rules R141, R91, R109). -/
def execCmpAby (w : Word) (s : State) : Result := callF2 0xD9 w s

/-- `CMP $HHLL,X`: opcode 0xDD, AbsoluteIndexedX (rules R141, R90, R109). -/
def execCmpAbx (w : Word) (s : State) : Result := callF2 0xDD w s

/-! ### CPX (rule R142) -/

/-- `CPX #$XX`: opcode 0xE0, Immediate (rules R142, R85, R107). -/
def execCpxImm (b : Byte) (s : State) : Result := callF1 0xE0 b s

/-- `CPX $XX`: opcode 0xE4, ZeroPage (rules R142, R87, R107). -/
def execCpxZp (b : Byte) (s : State) : Result := callF1 0xE4 b s

/-- `CPX $HHLL`: opcode 0xEC, Absolute (rules R142, R86, R107). -/
def execCpxAbs (w : Word) (s : State) : Result := callF2 0xEC w s

/-! ### CPY (rule R143) -/

/-- `CPY #$XX`: opcode 0xC0, Immediate (rules R143, R85, R107). -/
def execCpyImm (b : Byte) (s : State) : Result := callF1 0xC0 b s

/-- `CPY $XX`: opcode 0xC4, ZeroPage (rules R143, R87, R107). -/
def execCpyZp (b : Byte) (s : State) : Result := callF1 0xC4 b s

/-- `CPY $HHLL`: opcode 0xCC, Absolute (rules R143, R86, R107). -/
def execCpyAbs (w : Word) (s : State) : Result := callF2 0xCC w s

/-! ### BIT (rule R144) -/

/-- `BIT $XX`: opcode 0x24, ZeroPage (rules R144, R87, R107). -/
def execBitZp (b : Byte) (s : State) : Result := callF1 0x24 b s

/-- `BIT $HHLL`: opcode 0x2C, Absolute (rules R144, R86, R107). -/
def execBitAbs (w : Word) (s : State) : Result := callF2 0x2C w s

end Sys2Proof.Machine
end

