-- ==== Sys2Proof/Machine/BranchJumpSystem.lean ====
section
/-! DEFINITION. The meanings of the branch, jump, subroutine and system instructions (spec/47_branch_jump_system.md). To the decoder an
instruction is what one `decode` call prints and returns for it; it executes nothing (rules R4, R20, R21). -/

namespace Sys2Proof.Machine

/-! ### BCC (rule R155) -/

/-- `BCC $TTTT`: opcode 0x90, Relative (rules R155, R96, R108). -/
def execBcc (d : Byte) (s : State) : Result := callF1 0x90 d s

/-! ### BCS (rule R156) -/

/-- `BCS $TTTT`: opcode 0xB0, Relative (rules R156, R96, R108). -/
def execBcs (d : Byte) (s : State) : Result := callF1 0xB0 d s

/-! ### BEQ (rule R157) -/

/-- `BEQ $TTTT`: opcode 0xF0, Relative (rules R157, R96, R108). -/
def execBeq (d : Byte) (s : State) : Result := callF1 0xF0 d s

/-! ### BMI (rule R158) -/

/-- `BMI $TTTT`: opcode 0x30, Relative (rules R158, R96, R108). -/
def execBmi (d : Byte) (s : State) : Result := callF1 0x30 d s

/-! ### BNE (rule R159) -/

/-- `BNE $TTTT`: opcode 0xD0, Relative (rules R159, R96, R108). -/
def execBne (d : Byte) (s : State) : Result := callF1 0xD0 d s

/-! ### BPL (rule R160) -/

/-- `BPL $TTTT`: opcode 0x10, Relative (rules R160, R96, R108). -/
def execBpl (d : Byte) (s : State) : Result := callF1 0x10 d s

/-! ### BVC (rule R161) -/

/-- `BVC $TTTT`: opcode 0x50, Relative (rules R161, R96, R108). -/
def execBvc (d : Byte) (s : State) : Result := callF1 0x50 d s

/-! ### BVS (rule R162) -/

/-- `BVS $TTTT`: opcode 0x70, Relative (rules R162, R96, R108). -/
def execBvs (d : Byte) (s : State) : Result := callF1 0x70 d s

/-! ### JMP (rule R163) -/

/-- `JMP $HHLL`: opcode 0x4C, Absolute (rules R163, R86, R107). -/
def execJmpAbs (w : Word) (s : State) : Result := callF2 0x4C w s

/-- `JMP ($HHLL)`: opcode 0x6C, IndirectAbsolute (rules R163, R89, R107). -/
def execJmpInd (w : Word) (s : State) : Result := callF2 0x6C w s

/-! ### JSR (rule R164) -/

/-- `JSR $HHLL`: opcode 0x20, Absolute (rules R164, R86, R107). -/
def execJsrAbs (w : Word) (s : State) : Result := callF2 0x20 w s

/-! ### RTS (rule R165) -/

/-- `RTS`: opcode 0x60, Implied (rules R165, R88, R107). -/
def execRts (s : State) : Result := callF0 0x60 s

/-! ### RTI (rule R166) -/

/-- `RTI`: opcode 0x40, Implied (rules R166, R88, R107). -/
def execRti (s : State) : Result := callF0 0x40 s

/-! ### BRK (rule R167) -/

/-- `BRK`: opcode 0x00, Implied (rules R167, R88, R107). -/
def execBrk (s : State) : Result := callF0 0x00 s

end Sys2Proof.Machine
end

