-- ==== Sys2Proof/Machine/FlagNop.lean ====
section
/-! DEFINITION. The meanings of the status-flag instructions and NOP (spec/48_flag_nop.md). To the decoder an
instruction is what one `decode` call prints and returns for it; it executes nothing (rules R4, R20, R21). -/

namespace Sys2Proof.Machine

/-! ### CLC (rule R168) -/

/-- `CLC`: opcode 0x18, Implied (rules R168, R88, R107). -/
def execClc (s : State) : Result := callF0 0x18 s

/-! ### CLD (rule R169) -/

/-- `CLD`: opcode 0xD8, Implied (rules R169, R88, R107). -/
def execCld (s : State) : Result := callF0 0xD8 s

/-! ### CLI (rule R170) -/

/-- `CLI`: opcode 0x58, Implied (rules R170, R88, R107). -/
def execCli (s : State) : Result := callF0 0x58 s

/-! ### CLV (rule R171) -/

/-- `CLV`: opcode 0xB8, Implied (rules R171, R88, R107). -/
def execClv (s : State) : Result := callF0 0xB8 s

/-! ### SEC (rule R172) -/

/-- `SEC`: opcode 0x38, Implied (rules R172, R88, R107). -/
def execSec (s : State) : Result := callF0 0x38 s

/-! ### SED (rule R173) -/

/-- `SED`: opcode 0xF8, Implied (rules R173, R88, R107). -/
def execSed (s : State) : Result := callF0 0xF8 s

/-! ### SEI (rule R174) -/

/-- `SEI`: opcode 0x78, Implied (rules R174, R88, R107). -/
def execSei (s : State) : Result := callF0 0x78 s

/-! ### NOP (rule R175) -/

/-- `NOP`: opcode 0xEA, Implied (rules R175, R88, R107). -/
def execNop (s : State) : Result := callF0 0xEA s

end Sys2Proof.Machine
end

