-- ==== Sys2Proof/Machine/IncDecShift.lean ====
section
/-! DEFINITION. The meanings of the increment, decrement, shift and rotate instructions (spec/46_incdec_shift.md). To the decoder an
instruction is what one `decode` call prints and returns for it; it executes nothing (rules R4, R20, R21). -/

namespace Sys2Proof.Machine

/-! ### INC (rule R145) -/

/-- `INC $XX`: opcode 0xE6, ZeroPage (rules R145, R87, R107). -/
def execIncZp (b : Byte) (s : State) : Result := callF1 0xE6 b s

/-- `INC $HHLL`: opcode 0xEE, Absolute (rules R145, R86, R107). -/
def execIncAbs (w : Word) (s : State) : Result := callF2 0xEE w s

/-- `INC $XX,X`: opcode 0xF6, ZeroPageIndexedX (rules R145, R92, R107). -/
def execIncZpx (b : Byte) (s : State) : Result := callF1 0xF6 b s

/-- `INC $HHLL,X`: opcode 0xFE, AbsoluteIndexedX (rules R145, R90, R107). -/
def execIncAbx (w : Word) (s : State) : Result := callF2 0xFE w s

/-! ### INX (rule R146) -/

/-- `INX`: opcode 0xE8, Implied (rules R146, R88, R107). -/
def execInx (s : State) : Result := callF0 0xE8 s

/-! ### INY (rule R147) -/

/-- `INY`: opcode 0xC8, Implied (rules R147, R88, R107). -/
def execIny (s : State) : Result := callF0 0xC8 s

/-! ### DEC (rule R148) -/

/-- `DEC $XX`: opcode 0xC6, ZeroPage (rules R148, R87, R107). -/
def execDecZp (b : Byte) (s : State) : Result := callF1 0xC6 b s

/-- `DEC $HHLL`: opcode 0xCE, Absolute (rules R148, R86, R107). -/
def execDecAbs (w : Word) (s : State) : Result := callF2 0xCE w s

/-- `DEC $XX,X`: opcode 0xD6, ZeroPageIndexedX (rules R148, R92, R107). -/
def execDecZpx (b : Byte) (s : State) : Result := callF1 0xD6 b s

/-- `DEC $HHLL,X`: opcode 0xDE, AbsoluteIndexedX (rules R148, R90, R107). -/
def execDecAbx (w : Word) (s : State) : Result := callF2 0xDE w s

/-! ### DEX (rule R149) -/

/-- `DEX`: opcode 0xCA, Implied (rules R149, R88, R107). -/
def execDex (s : State) : Result := callF0 0xCA s

/-! ### DEY (rule R150) -/

/-- `DEY`: opcode 0x88, Implied (rules R150, R88, R107). -/
def execDey (s : State) : Result := callF0 0x88 s

/-! ### ASL (rule R151) -/

/-- `ASL $XX`: opcode 0x06, ZeroPage (rules R151, R87, R107). -/
def execAslZp (b : Byte) (s : State) : Result := callF1 0x06 b s

/-- `ASL A`: opcode 0x0A, Accumulator (rules R151, R97, R107). -/
def execAslAcc (s : State) : Result := callF0 0x0A s

/-- `ASL $HHLL`: opcode 0x0E, Absolute (rules R151, R86, R107). -/
def execAslAbs (w : Word) (s : State) : Result := callF2 0x0E w s

/-- `ASL $XX,X`: opcode 0x16, ZeroPageIndexedX (rules R151, R92, R107). -/
def execAslZpx (b : Byte) (s : State) : Result := callF1 0x16 b s

/-- `ASL $HHLL,X`: opcode 0x1E, AbsoluteIndexedX (rules R151, R90, R107). -/
def execAslAbx (w : Word) (s : State) : Result := callF2 0x1E w s

/-! ### LSR (rule R152) -/

/-- `LSR $XX`: opcode 0x46, ZeroPage (rules R152, R87, R107). -/
def execLsrZp (b : Byte) (s : State) : Result := callF1 0x46 b s

/-- `LSR A`: opcode 0x4A, Accumulator (rules R152, R97, R107). -/
def execLsrAcc (s : State) : Result := callF0 0x4A s

/-- `LSR $HHLL`: opcode 0x4E, Absolute (rules R152, R86, R107). -/
def execLsrAbs (w : Word) (s : State) : Result := callF2 0x4E w s

/-- `LSR $XX,X`: opcode 0x56, ZeroPageIndexedX (rules R152, R92, R107). -/
def execLsrZpx (b : Byte) (s : State) : Result := callF1 0x56 b s

/-- `LSR $HHLL,X`: opcode 0x5E, AbsoluteIndexedX (rules R152, R90, R107). -/
def execLsrAbx (w : Word) (s : State) : Result := callF2 0x5E w s

/-! ### ROL (rule R153) -/

/-- `ROL $XX`: opcode 0x26, ZeroPage (rules R153, R87, R107). -/
def execRolZp (b : Byte) (s : State) : Result := callF1 0x26 b s

/-- `ROL A`: opcode 0x2A, Accumulator (rules R153, R97, R107). -/
def execRolAcc (s : State) : Result := callF0 0x2A s

/-- `ROL $HHLL`: opcode 0x2E, Absolute (rules R153, R86, R107). -/
def execRolAbs (w : Word) (s : State) : Result := callF2 0x2E w s

/-- `ROL $XX,X`: opcode 0x36, ZeroPageIndexedX (rules R153, R92, R107). -/
def execRolZpx (b : Byte) (s : State) : Result := callF1 0x36 b s

/-- `ROL $HHLL,X`: opcode 0x3E, AbsoluteIndexedX (rules R153, R90, R107). -/
def execRolAbx (w : Word) (s : State) : Result := callF2 0x3E w s

/-! ### ROR (rule R154) -/

/-- `ROR $XX`: opcode 0x66, ZeroPage (rules R154, R87, R107). -/
def execRorZp (b : Byte) (s : State) : Result := callF1 0x66 b s

/-- `ROR A`: opcode 0x6A, Accumulator (rules R154, R97, R107). -/
def execRorAcc (s : State) : Result := callF0 0x6A s

/-- `ROR $HHLL`: opcode 0x6E, Absolute (rules R154, R86, R107). -/
def execRorAbs (w : Word) (s : State) : Result := callF2 0x6E w s

/-- `ROR $XX,X`: opcode 0x76, ZeroPageIndexedX (rules R154, R92, R107). -/
def execRorZpx (b : Byte) (s : State) : Result := callF1 0x76 b s

/-- `ROR $HHLL,X`: opcode 0x7E, AbsoluteIndexedX (rules R154, R90, R107). -/
def execRorAbx (w : Word) (s : State) : Result := callF2 0x7E w s

end Sys2Proof.Machine
end

