-- ==== Sys2Proof/Machine/LoadStore.lean ====
section
/-! DEFINITION. The meanings of the load and store instructions (spec/43_load_store.md). To the decoder an
instruction is what one `decode` call prints and returns for it; it executes nothing (rules R4, R20, R21). -/

namespace Sys2Proof.Machine

/-! ### LDA (rule R120) -/

/-- `LDA ($XX,X)`: opcode 0xA1, IndexedIndirectX (rules R120, R94, R107). -/
def execLdaIzx (b : Byte) (s : State) : Result := callF1 0xA1 b s

/-- `LDA $XX`: opcode 0xA5, ZeroPage (rules R120, R87, R107). -/
def execLdaZp (b : Byte) (s : State) : Result := callF1 0xA5 b s

/-- `LDA #$XX`: opcode 0xA9, Immediate (rules R120, R85, R107). -/
def execLdaImm (b : Byte) (s : State) : Result := callF1 0xA9 b s

/-- `LDA $HHLL`: opcode 0xAD, Absolute (rules R120, R86, R107). -/
def execLdaAbs (w : Word) (s : State) : Result := callF2 0xAD w s

/-- `LDA ($XX),Y`: opcode 0xB1, IndirectIndexedY (rules R120, R95, R109). -/
def execLdaIzy (b : Byte) (s : State) : Result := callF1 0xB1 b s

/-- `LDA $XX,X`: opcode 0xB5, ZeroPageIndexedX (rules R120, R92, R107). -/
def execLdaZpx (b : Byte) (s : State) : Result := callF1 0xB5 b s

/-- `LDA $HHLL,Y`: opcode 0xB9, AbsoluteIndexedY (rules R120, R91, R109). -/
def execLdaAby (w : Word) (s : State) : Result := callF2 0xB9 w s

/-- `LDA $HHLL,X`: opcode 0xBD, AbsoluteIndexedX (rules R120, R90, R109). -/
def execLdaAbx (w : Word) (s : State) : Result := callF2 0xBD w s

/-! ### LDX (rule R121) -/

/-- `LDX #$XX`: opcode 0xA2, Immediate (rules R121, R85, R107). -/
def execLdxImm (b : Byte) (s : State) : Result := callF1 0xA2 b s

/-- `LDX $XX`: opcode 0xA6, ZeroPage (rules R121, R87, R107). -/
def execLdxZp (b : Byte) (s : State) : Result := callF1 0xA6 b s

/-- `LDX $HHLL`: opcode 0xAE, Absolute (rules R121, R86, R107). -/
def execLdxAbs (w : Word) (s : State) : Result := callF2 0xAE w s

/-- `LDX $XX,Y`: opcode 0xB6, ZeroPageIndexedY (rules R121, R93, R107). -/
def execLdxZpy (b : Byte) (s : State) : Result := callF1 0xB6 b s

/-- `LDX $HHLL,Y`: opcode 0xBE, AbsoluteIndexedY (rules R121, R91, R109). -/
def execLdxAby (w : Word) (s : State) : Result := callF2 0xBE w s

/-! ### LDY (rule R122) -/

/-- `LDY #$XX`: opcode 0xA0, Immediate (rules R122, R85, R107). -/
def execLdyImm (b : Byte) (s : State) : Result := callF1 0xA0 b s

/-- `LDY $XX`: opcode 0xA4, ZeroPage (rules R122, R87, R107). -/
def execLdyZp (b : Byte) (s : State) : Result := callF1 0xA4 b s

/-- `LDY $HHLL`: opcode 0xAC, Absolute (rules R122, R86, R107). -/
def execLdyAbs (w : Word) (s : State) : Result := callF2 0xAC w s

/-- `LDY $XX,X`: opcode 0xB4, ZeroPageIndexedX (rules R122, R92, R107). -/
def execLdyZpx (b : Byte) (s : State) : Result := callF1 0xB4 b s

/-- `LDY $HHLL,X`: opcode 0xBC, AbsoluteIndexedX (rules R122, R90, R109). -/
def execLdyAbx (w : Word) (s : State) : Result := callF2 0xBC w s

/-! ### STA (rule R123) -/

/-- `STA ($XX,X)`: opcode 0x81, IndexedIndirectX (rules R123, R94, R107). -/
def execStaIzx (b : Byte) (s : State) : Result := callF1 0x81 b s

/-- `STA $XX`: opcode 0x85, ZeroPage (rules R123, R87, R107). -/
def execStaZp (b : Byte) (s : State) : Result := callF1 0x85 b s

/-- `STA $HHLL`: opcode 0x8D, Absolute (rules R123, R86, R107). -/
def execStaAbs (w : Word) (s : State) : Result := callF2 0x8D w s

/-- `STA ($XX),Y`: opcode 0x91, IndirectIndexedY (rules R123, R95, R107). -/
def execStaIzy (b : Byte) (s : State) : Result := callF1 0x91 b s

/-- `STA $XX,X`: opcode 0x95, ZeroPageIndexedX (rules R123, R92, R107). -/
def execStaZpx (b : Byte) (s : State) : Result := callF1 0x95 b s

/-- `STA $HHLL,Y`: opcode 0x99, AbsoluteIndexedY (rules R123, R91, R107). -/
def execStaAby (w : Word) (s : State) : Result := callF2 0x99 w s

/-- `STA $HHLL,X`: opcode 0x9D, AbsoluteIndexedX (rules R123, R90, R107). -/
def execStaAbx (w : Word) (s : State) : Result := callF2 0x9D w s

/-! ### STX (rule R124) -/

/-- `STX $XX`: opcode 0x86, ZeroPage (rules R124, R87, R107). -/
def execStxZp (b : Byte) (s : State) : Result := callF1 0x86 b s

/-- `STX $HHLL`: opcode 0x8E, Absolute (rules R124, R86, R107). -/
def execStxAbs (w : Word) (s : State) : Result := callF2 0x8E w s

/-- `STX $XX,Y`: opcode 0x96, ZeroPageIndexedY (rules R124, R93, R107). -/
def execStxZpy (b : Byte) (s : State) : Result := callF1 0x96 b s

/-! ### STY (rule R125) -/

/-- `STY $XX`: opcode 0x84, ZeroPage (rules R125, R87, R107). -/
def execStyZp (b : Byte) (s : State) : Result := callF1 0x84 b s

/-- `STY $HHLL`: opcode 0x8C, Absolute (rules R125, R86, R107). -/
def execStyAbs (w : Word) (s : State) : Result := callF2 0x8C w s

/-- `STY $XX,X`: opcode 0x94, ZeroPageIndexedX (rules R125, R92, R107). -/
def execStyZpx (b : Byte) (s : State) : Result := callF1 0x94 b s

end Sys2Proof.Machine
end

