-- ==== Sys2Proof/Machine/TransferStack.lean ====
section
/-! DEFINITION. The meanings of the register transfer and stack instructions (spec/44_transfer_stack.md). To the decoder an
instruction is what one `decode` call prints and returns for it; it executes nothing (rules R4, R20, R21). -/

namespace Sys2Proof.Machine

/-! ### TAX (rule R126) -/

/-- `TAX`: opcode 0xAA, Implied (rules R126, R88, R107). -/
def execTax (s : State) : Result := callF0 0xAA s

/-! ### TAY (rule R127) -/

/-- `TAY`: opcode 0xA8, Implied (rules R127, R88, R107). -/
def execTay (s : State) : Result := callF0 0xA8 s

/-! ### TSX (rule R128) -/

/-- `TSX`: opcode 0xBA, Implied (rules R128, R88, R107). -/
def execTsx (s : State) : Result := callF0 0xBA s

/-! ### TXA (rule R129) -/

/-- `TXA`: opcode 0x8A, Implied (rules R129, R88, R107). -/
def execTxa (s : State) : Result := callF0 0x8A s

/-! ### TXS (rule R130) -/

/-- `TXS`: opcode 0x9A, Implied (rules R130, R88, R107). -/
def execTxs (s : State) : Result := callF0 0x9A s

/-! ### TYA (rule R131) -/

/-- `TYA`: opcode 0x98, Implied (rules R131, R88, R107). -/
def execTya (s : State) : Result := callF0 0x98 s

/-! ### PHA (rule R132) -/

/-- `PHA`: opcode 0x48, Implied (rules R132, R88, R107). -/
def execPha (s : State) : Result := callF0 0x48 s

/-! ### PHP (rule R133) -/

/-- `PHP`: opcode 0x08, Implied (rules R133, R88, R107). -/
def execPhp (s : State) : Result := callF0 0x08 s

/-! ### PLA (rule R134) -/

/-- `PLA`: opcode 0x68, Implied (rules R134, R88, R107). -/
def execPla (s : State) : Result := callF0 0x68 s

/-! ### PLP (rule R135) -/

/-- `PLP`: opcode 0x28, Implied (rules R135, R88, R107). -/
def execPlp (s : State) : Result := callF0 0x28 s

end Sys2Proof.Machine
end

