-- ==== Sys2Proof/Machine/Undefined.lean ====
section
/-! DEFINITION. The meanings of the 105 undefined opcode bytes (spec/49_undefined_opcodes.md, rules R180 to R182): a call
whose ROM record is invalid, so that UndefinedOpcode is reported inline and the cursor advances by 1. -/

namespace Sys2Proof.Machine

/-- Undefined opcode byte 0x02 (rule R180). -/
def execByte02 (s : State) : Result := callF0 0x02 s

/-- Undefined opcode byte 0x03 (rule R180). -/
def execByte03 (s : State) : Result := callF0 0x03 s

/-- Undefined opcode byte 0x04 (rule R180). -/
def execByte04 (s : State) : Result := callF0 0x04 s

/-- Undefined opcode byte 0x07 (rule R180). -/
def execByte07 (s : State) : Result := callF0 0x07 s

/-- Undefined opcode byte 0x0B (rule R180). -/
def execByte0B (s : State) : Result := callF0 0x0B s

/-- Undefined opcode byte 0x0C (rule R180). -/
def execByte0C (s : State) : Result := callF0 0x0C s

/-- Undefined opcode byte 0x0F (rule R180). -/
def execByte0F (s : State) : Result := callF0 0x0F s

/-- Undefined opcode byte 0x12 (rule R180). -/
def execByte12 (s : State) : Result := callF0 0x12 s

/-- Undefined opcode byte 0x13 (rule R180). -/
def execByte13 (s : State) : Result := callF0 0x13 s

/-- Undefined opcode byte 0x14 (rule R180). -/
def execByte14 (s : State) : Result := callF0 0x14 s

/-- Undefined opcode byte 0x17 (rule R180). -/
def execByte17 (s : State) : Result := callF0 0x17 s

/-- Undefined opcode byte 0x1A (rule R180). -/
def execByte1A (s : State) : Result := callF0 0x1A s

/-- Undefined opcode byte 0x1B (rule R180). -/
def execByte1B (s : State) : Result := callF0 0x1B s

/-- Undefined opcode byte 0x1C (rule R180). -/
def execByte1C (s : State) : Result := callF0 0x1C s

/-- Undefined opcode byte 0x1F (rule R180). -/
def execByte1F (s : State) : Result := callF0 0x1F s

/-- Undefined opcode byte 0x22 (rule R180). -/
def execByte22 (s : State) : Result := callF0 0x22 s

/-- Undefined opcode byte 0x23 (rule R180). -/
def execByte23 (s : State) : Result := callF0 0x23 s

/-- Undefined opcode byte 0x27 (rule R180). -/
def execByte27 (s : State) : Result := callF0 0x27 s

/-- Undefined opcode byte 0x2B (rule R180). -/
def execByte2B (s : State) : Result := callF0 0x2B s

/-- Undefined opcode byte 0x2F (rule R180). -/
def execByte2F (s : State) : Result := callF0 0x2F s

/-- Undefined opcode byte 0x32 (rule R180). -/
def execByte32 (s : State) : Result := callF0 0x32 s

/-- Undefined opcode byte 0x33 (rule R180). -/
def execByte33 (s : State) : Result := callF0 0x33 s

/-- Undefined opcode byte 0x34 (rule R180). -/
def execByte34 (s : State) : Result := callF0 0x34 s

/-- Undefined opcode byte 0x37 (rule R180). -/
def execByte37 (s : State) : Result := callF0 0x37 s

/-- Undefined opcode byte 0x3A (rule R180). -/
def execByte3A (s : State) : Result := callF0 0x3A s

/-- Undefined opcode byte 0x3B (rule R180). -/
def execByte3B (s : State) : Result := callF0 0x3B s

/-- Undefined opcode byte 0x3C (rule R180). -/
def execByte3C (s : State) : Result := callF0 0x3C s

/-- Undefined opcode byte 0x3F (rule R180). -/
def execByte3F (s : State) : Result := callF0 0x3F s

/-- Undefined opcode byte 0x42 (rule R180). -/
def execByte42 (s : State) : Result := callF0 0x42 s

/-- Undefined opcode byte 0x43 (rule R180). -/
def execByte43 (s : State) : Result := callF0 0x43 s

/-- Undefined opcode byte 0x44 (rule R180). -/
def execByte44 (s : State) : Result := callF0 0x44 s

/-- Undefined opcode byte 0x47 (rule R180). -/
def execByte47 (s : State) : Result := callF0 0x47 s

/-- Undefined opcode byte 0x4B (rule R180). -/
def execByte4B (s : State) : Result := callF0 0x4B s

/-- Undefined opcode byte 0x4F (rule R180). -/
def execByte4F (s : State) : Result := callF0 0x4F s

/-- Undefined opcode byte 0x52 (rule R180). -/
def execByte52 (s : State) : Result := callF0 0x52 s

/-- Undefined opcode byte 0x53 (rule R180). -/
def execByte53 (s : State) : Result := callF0 0x53 s

/-- Undefined opcode byte 0x54 (rule R180). -/
def execByte54 (s : State) : Result := callF0 0x54 s

/-- Undefined opcode byte 0x57 (rule R180). -/
def execByte57 (s : State) : Result := callF0 0x57 s

/-- Undefined opcode byte 0x5A (rule R180). -/
def execByte5A (s : State) : Result := callF0 0x5A s

/-- Undefined opcode byte 0x5B (rule R180). -/
def execByte5B (s : State) : Result := callF0 0x5B s

/-- Undefined opcode byte 0x5C (rule R180). -/
def execByte5C (s : State) : Result := callF0 0x5C s

/-- Undefined opcode byte 0x5F (rule R180). -/
def execByte5F (s : State) : Result := callF0 0x5F s

/-- Undefined opcode byte 0x62 (rule R180). -/
def execByte62 (s : State) : Result := callF0 0x62 s

/-- Undefined opcode byte 0x63 (rule R180). -/
def execByte63 (s : State) : Result := callF0 0x63 s

/-- Undefined opcode byte 0x64 (rule R180). -/
def execByte64 (s : State) : Result := callF0 0x64 s

/-- Undefined opcode byte 0x67 (rule R180). -/
def execByte67 (s : State) : Result := callF0 0x67 s

/-- Undefined opcode byte 0x6B (rule R180). -/
def execByte6B (s : State) : Result := callF0 0x6B s

/-- Undefined opcode byte 0x6F (rule R180). -/
def execByte6F (s : State) : Result := callF0 0x6F s

/-- Undefined opcode byte 0x72 (rule R180). -/
def execByte72 (s : State) : Result := callF0 0x72 s

/-- Undefined opcode byte 0x73 (rule R180). -/
def execByte73 (s : State) : Result := callF0 0x73 s

/-- Undefined opcode byte 0x74 (rule R180). -/
def execByte74 (s : State) : Result := callF0 0x74 s

/-- Undefined opcode byte 0x77 (rule R180). -/
def execByte77 (s : State) : Result := callF0 0x77 s

/-- Undefined opcode byte 0x7A (rule R180). -/
def execByte7A (s : State) : Result := callF0 0x7A s

/-- Undefined opcode byte 0x7B (rule R180). -/
def execByte7B (s : State) : Result := callF0 0x7B s

/-- Undefined opcode byte 0x7C (rule R180). -/
def execByte7C (s : State) : Result := callF0 0x7C s

/-- Undefined opcode byte 0x7F (rule R180). -/
def execByte7F (s : State) : Result := callF0 0x7F s

/-- Undefined opcode byte 0x80 (rule R180). -/
def execByte80 (s : State) : Result := callF0 0x80 s

/-- Undefined opcode byte 0x82 (rule R180). -/
def execByte82 (s : State) : Result := callF0 0x82 s

/-- Undefined opcode byte 0x83 (rule R180). -/
def execByte83 (s : State) : Result := callF0 0x83 s

/-- Undefined opcode byte 0x87 (rule R180). -/
def execByte87 (s : State) : Result := callF0 0x87 s

/-- Undefined opcode byte 0x89 (rule R180). -/
def execByte89 (s : State) : Result := callF0 0x89 s

/-- Undefined opcode byte 0x8B (rule R180). -/
def execByte8B (s : State) : Result := callF0 0x8B s

/-- Undefined opcode byte 0x8F (rule R180). -/
def execByte8F (s : State) : Result := callF0 0x8F s

/-- Undefined opcode byte 0x92 (rule R180). -/
def execByte92 (s : State) : Result := callF0 0x92 s

/-- Undefined opcode byte 0x93 (rule R180). -/
def execByte93 (s : State) : Result := callF0 0x93 s

/-- Undefined opcode byte 0x97 (rule R180). -/
def execByte97 (s : State) : Result := callF0 0x97 s

/-- Undefined opcode byte 0x9B (rule R180). -/
def execByte9B (s : State) : Result := callF0 0x9B s

/-- Undefined opcode byte 0x9C (rule R180). -/
def execByte9C (s : State) : Result := callF0 0x9C s

/-- Undefined opcode byte 0x9E (rule R180). -/
def execByte9E (s : State) : Result := callF0 0x9E s

/-- Undefined opcode byte 0x9F (rule R180). -/
def execByte9F (s : State) : Result := callF0 0x9F s

/-- Undefined opcode byte 0xA3 (rule R180). -/
def execByteA3 (s : State) : Result := callF0 0xA3 s

/-- Undefined opcode byte 0xA7 (rule R180). -/
def execByteA7 (s : State) : Result := callF0 0xA7 s

/-- Undefined opcode byte 0xAB (rule R180). -/
def execByteAB (s : State) : Result := callF0 0xAB s

/-- Undefined opcode byte 0xAF (rule R180). -/
def execByteAF (s : State) : Result := callF0 0xAF s

/-- Undefined opcode byte 0xB2 (rule R180). -/
def execByteB2 (s : State) : Result := callF0 0xB2 s

/-- Undefined opcode byte 0xB3 (rule R180). -/
def execByteB3 (s : State) : Result := callF0 0xB3 s

/-- Undefined opcode byte 0xB7 (rule R180). -/
def execByteB7 (s : State) : Result := callF0 0xB7 s

/-- Undefined opcode byte 0xBB (rule R180). -/
def execByteBB (s : State) : Result := callF0 0xBB s

/-- Undefined opcode byte 0xBF (rule R180). -/
def execByteBF (s : State) : Result := callF0 0xBF s

/-- Undefined opcode byte 0xC2 (rule R180). -/
def execByteC2 (s : State) : Result := callF0 0xC2 s

/-- Undefined opcode byte 0xC3 (rule R180). -/
def execByteC3 (s : State) : Result := callF0 0xC3 s

/-- Undefined opcode byte 0xC7 (rule R180). -/
def execByteC7 (s : State) : Result := callF0 0xC7 s

/-- Undefined opcode byte 0xCB (rule R180). -/
def execByteCB (s : State) : Result := callF0 0xCB s

/-- Undefined opcode byte 0xCF (rule R180). -/
def execByteCF (s : State) : Result := callF0 0xCF s

/-- Undefined opcode byte 0xD2 (rule R180). -/
def execByteD2 (s : State) : Result := callF0 0xD2 s

/-- Undefined opcode byte 0xD3 (rule R180). -/
def execByteD3 (s : State) : Result := callF0 0xD3 s

/-- Undefined opcode byte 0xD4 (rule R180). -/
def execByteD4 (s : State) : Result := callF0 0xD4 s

/-- Undefined opcode byte 0xD7 (rule R180). -/
def execByteD7 (s : State) : Result := callF0 0xD7 s

/-- Undefined opcode byte 0xDA (rule R180). -/
def execByteDA (s : State) : Result := callF0 0xDA s

/-- Undefined opcode byte 0xDB (rule R180). -/
def execByteDB (s : State) : Result := callF0 0xDB s

/-- Undefined opcode byte 0xDC (rule R180). -/
def execByteDC (s : State) : Result := callF0 0xDC s

/-- Undefined opcode byte 0xDF (rule R180). -/
def execByteDF (s : State) : Result := callF0 0xDF s

/-- Undefined opcode byte 0xE2 (rule R180). -/
def execByteE2 (s : State) : Result := callF0 0xE2 s

/-- Undefined opcode byte 0xE3 (rule R180). -/
def execByteE3 (s : State) : Result := callF0 0xE3 s

/-- Undefined opcode byte 0xE7 (rule R180). -/
def execByteE7 (s : State) : Result := callF0 0xE7 s

/-- Undefined opcode byte 0xEB (rule R180). -/
def execByteEB (s : State) : Result := callF0 0xEB s

/-- Undefined opcode byte 0xEF (rule R180). -/
def execByteEF (s : State) : Result := callF0 0xEF s

/-- Undefined opcode byte 0xF2 (rule R180). -/
def execByteF2 (s : State) : Result := callF0 0xF2 s

/-- Undefined opcode byte 0xF3 (rule R180). -/
def execByteF3 (s : State) : Result := callF0 0xF3 s

/-- Undefined opcode byte 0xF4 (rule R180). -/
def execByteF4 (s : State) : Result := callF0 0xF4 s

/-- Undefined opcode byte 0xF7 (rule R180). -/
def execByteF7 (s : State) : Result := callF0 0xF7 s

/-- Undefined opcode byte 0xFA (rule R180). -/
def execByteFA (s : State) : Result := callF0 0xFA s

/-- Undefined opcode byte 0xFB (rule R180). -/
def execByteFB (s : State) : Result := callF0 0xFB s

/-- Undefined opcode byte 0xFC (rule R180). -/
def execByteFC (s : State) : Result := callF0 0xFC s

/-- Undefined opcode byte 0xFF (rule R180). -/
def execByteFF (s : State) : Result := callF0 0xFF s

end Sys2Proof.Machine
end

