-- ==== Sys2Proof/Machine/Dispatch.lean ====
section
/-! DEFINITION. One arm per constructor of `Instr`: a direct call of its meaning. -/

namespace Sys2Proof.Machine

def exec (i : Instr) (s : State) : Host.Outcome State Fault Refusal :=
  match i with
  -- 43_load_store.md
  | .ldaIzx b => Sys2Proof.Machine.execLdaIzx b s
  | .ldaZp b => Sys2Proof.Machine.execLdaZp b s
  | .ldaImm b => Sys2Proof.Machine.execLdaImm b s
  | .ldaAbs w => Sys2Proof.Machine.execLdaAbs w s
  | .ldaIzy b => Sys2Proof.Machine.execLdaIzy b s
  | .ldaZpx b => Sys2Proof.Machine.execLdaZpx b s
  | .ldaAby w => Sys2Proof.Machine.execLdaAby w s
  | .ldaAbx w => Sys2Proof.Machine.execLdaAbx w s
  | .ldxImm b => Sys2Proof.Machine.execLdxImm b s
  | .ldxZp b => Sys2Proof.Machine.execLdxZp b s
  | .ldxAbs w => Sys2Proof.Machine.execLdxAbs w s
  | .ldxZpy b => Sys2Proof.Machine.execLdxZpy b s
  | .ldxAby w => Sys2Proof.Machine.execLdxAby w s
  | .ldyImm b => Sys2Proof.Machine.execLdyImm b s
  | .ldyZp b => Sys2Proof.Machine.execLdyZp b s
  | .ldyAbs w => Sys2Proof.Machine.execLdyAbs w s
  | .ldyZpx b => Sys2Proof.Machine.execLdyZpx b s
  | .ldyAbx w => Sys2Proof.Machine.execLdyAbx w s
  | .staIzx b => Sys2Proof.Machine.execStaIzx b s
  | .staZp b => Sys2Proof.Machine.execStaZp b s
  | .staAbs w => Sys2Proof.Machine.execStaAbs w s
  | .staIzy b => Sys2Proof.Machine.execStaIzy b s
  | .staZpx b => Sys2Proof.Machine.execStaZpx b s
  | .staAby w => Sys2Proof.Machine.execStaAby w s
  | .staAbx w => Sys2Proof.Machine.execStaAbx w s
  | .stxZp b => Sys2Proof.Machine.execStxZp b s
  | .stxAbs w => Sys2Proof.Machine.execStxAbs w s
  | .stxZpy b => Sys2Proof.Machine.execStxZpy b s
  | .styZp b => Sys2Proof.Machine.execStyZp b s
  | .styAbs w => Sys2Proof.Machine.execStyAbs w s
  | .styZpx b => Sys2Proof.Machine.execStyZpx b s
  -- 44_transfer_stack.md
  | .tax => Sys2Proof.Machine.execTax s
  | .tay => Sys2Proof.Machine.execTay s
  | .tsx => Sys2Proof.Machine.execTsx s
  | .txa => Sys2Proof.Machine.execTxa s
  | .txs => Sys2Proof.Machine.execTxs s
  | .tya => Sys2Proof.Machine.execTya s
  | .pha => Sys2Proof.Machine.execPha s
  | .php => Sys2Proof.Machine.execPhp s
  | .pla => Sys2Proof.Machine.execPla s
  | .plp => Sys2Proof.Machine.execPlp s
  -- 45_arith_logic.md
  | .adcIzx b => Sys2Proof.Machine.execAdcIzx b s
  | .adcZp b => Sys2Proof.Machine.execAdcZp b s
  | .adcImm b => Sys2Proof.Machine.execAdcImm b s
  | .adcAbs w => Sys2Proof.Machine.execAdcAbs w s
  | .adcIzy b => Sys2Proof.Machine.execAdcIzy b s
  | .adcZpx b => Sys2Proof.Machine.execAdcZpx b s
  | .adcAby w => Sys2Proof.Machine.execAdcAby w s
  | .adcAbx w => Sys2Proof.Machine.execAdcAbx w s
  | .sbcIzx b => Sys2Proof.Machine.execSbcIzx b s
  | .sbcZp b => Sys2Proof.Machine.execSbcZp b s
  | .sbcImm b => Sys2Proof.Machine.execSbcImm b s
  | .sbcAbs w => Sys2Proof.Machine.execSbcAbs w s
  | .sbcIzy b => Sys2Proof.Machine.execSbcIzy b s
  | .sbcZpx b => Sys2Proof.Machine.execSbcZpx b s
  | .sbcAby w => Sys2Proof.Machine.execSbcAby w s
  | .sbcAbx w => Sys2Proof.Machine.execSbcAbx w s
  | .andIzx b => Sys2Proof.Machine.execAndIzx b s
  | .andZp b => Sys2Proof.Machine.execAndZp b s
  | .andImm b => Sys2Proof.Machine.execAndImm b s
  | .andAbs w => Sys2Proof.Machine.execAndAbs w s
  | .andIzy b => Sys2Proof.Machine.execAndIzy b s
  | .andZpx b => Sys2Proof.Machine.execAndZpx b s
  | .andAby w => Sys2Proof.Machine.execAndAby w s
  | .andAbx w => Sys2Proof.Machine.execAndAbx w s
  | .oraIzx b => Sys2Proof.Machine.execOraIzx b s
  | .oraZp b => Sys2Proof.Machine.execOraZp b s
  | .oraImm b => Sys2Proof.Machine.execOraImm b s
  | .oraAbs w => Sys2Proof.Machine.execOraAbs w s
  | .oraIzy b => Sys2Proof.Machine.execOraIzy b s
  | .oraZpx b => Sys2Proof.Machine.execOraZpx b s
  | .oraAby w => Sys2Proof.Machine.execOraAby w s
  | .oraAbx w => Sys2Proof.Machine.execOraAbx w s
  | .eorIzx b => Sys2Proof.Machine.execEorIzx b s
  | .eorZp b => Sys2Proof.Machine.execEorZp b s
  | .eorImm b => Sys2Proof.Machine.execEorImm b s
  | .eorAbs w => Sys2Proof.Machine.execEorAbs w s
  | .eorIzy b => Sys2Proof.Machine.execEorIzy b s
  | .eorZpx b => Sys2Proof.Machine.execEorZpx b s
  | .eorAby w => Sys2Proof.Machine.execEorAby w s
  | .eorAbx w => Sys2Proof.Machine.execEorAbx w s
  | .cmpIzx b => Sys2Proof.Machine.execCmpIzx b s
  | .cmpZp b => Sys2Proof.Machine.execCmpZp b s
  | .cmpImm b => Sys2Proof.Machine.execCmpImm b s
  | .cmpAbs w => Sys2Proof.Machine.execCmpAbs w s
  | .cmpIzy b => Sys2Proof.Machine.execCmpIzy b s
  | .cmpZpx b => Sys2Proof.Machine.execCmpZpx b s
  | .cmpAby w => Sys2Proof.Machine.execCmpAby w s
  | .cmpAbx w => Sys2Proof.Machine.execCmpAbx w s
  | .cpxImm b => Sys2Proof.Machine.execCpxImm b s
  | .cpxZp b => Sys2Proof.Machine.execCpxZp b s
  | .cpxAbs w => Sys2Proof.Machine.execCpxAbs w s
  | .cpyImm b => Sys2Proof.Machine.execCpyImm b s
  | .cpyZp b => Sys2Proof.Machine.execCpyZp b s
  | .cpyAbs w => Sys2Proof.Machine.execCpyAbs w s
  | .bitZp b => Sys2Proof.Machine.execBitZp b s
  | .bitAbs w => Sys2Proof.Machine.execBitAbs w s
  -- 46_incdec_shift.md
  | .incZp b => Sys2Proof.Machine.execIncZp b s
  | .incAbs w => Sys2Proof.Machine.execIncAbs w s
  | .incZpx b => Sys2Proof.Machine.execIncZpx b s
  | .incAbx w => Sys2Proof.Machine.execIncAbx w s
  | .inx => Sys2Proof.Machine.execInx s
  | .iny => Sys2Proof.Machine.execIny s
  | .decZp b => Sys2Proof.Machine.execDecZp b s
  | .decAbs w => Sys2Proof.Machine.execDecAbs w s
  | .decZpx b => Sys2Proof.Machine.execDecZpx b s
  | .decAbx w => Sys2Proof.Machine.execDecAbx w s
  | .dex => Sys2Proof.Machine.execDex s
  | .dey => Sys2Proof.Machine.execDey s
  | .aslZp b => Sys2Proof.Machine.execAslZp b s
  | .aslAcc => Sys2Proof.Machine.execAslAcc s
  | .aslAbs w => Sys2Proof.Machine.execAslAbs w s
  | .aslZpx b => Sys2Proof.Machine.execAslZpx b s
  | .aslAbx w => Sys2Proof.Machine.execAslAbx w s
  | .lsrZp b => Sys2Proof.Machine.execLsrZp b s
  | .lsrAcc => Sys2Proof.Machine.execLsrAcc s
  | .lsrAbs w => Sys2Proof.Machine.execLsrAbs w s
  | .lsrZpx b => Sys2Proof.Machine.execLsrZpx b s
  | .lsrAbx w => Sys2Proof.Machine.execLsrAbx w s
  | .rolZp b => Sys2Proof.Machine.execRolZp b s
  | .rolAcc => Sys2Proof.Machine.execRolAcc s
  | .rolAbs w => Sys2Proof.Machine.execRolAbs w s
  | .rolZpx b => Sys2Proof.Machine.execRolZpx b s
  | .rolAbx w => Sys2Proof.Machine.execRolAbx w s
  | .rorZp b => Sys2Proof.Machine.execRorZp b s
  | .rorAcc => Sys2Proof.Machine.execRorAcc s
  | .rorAbs w => Sys2Proof.Machine.execRorAbs w s
  | .rorZpx b => Sys2Proof.Machine.execRorZpx b s
  | .rorAbx w => Sys2Proof.Machine.execRorAbx w s
  -- 47_branch_jump_system.md
  | .bcc d => Sys2Proof.Machine.execBcc d s
  | .bcs d => Sys2Proof.Machine.execBcs d s
  | .beq d => Sys2Proof.Machine.execBeq d s
  | .bmi d => Sys2Proof.Machine.execBmi d s
  | .bne d => Sys2Proof.Machine.execBne d s
  | .bpl d => Sys2Proof.Machine.execBpl d s
  | .bvc d => Sys2Proof.Machine.execBvc d s
  | .bvs d => Sys2Proof.Machine.execBvs d s
  | .jmpAbs w => Sys2Proof.Machine.execJmpAbs w s
  | .jmpInd w => Sys2Proof.Machine.execJmpInd w s
  | .jsrAbs w => Sys2Proof.Machine.execJsrAbs w s
  | .rts => Sys2Proof.Machine.execRts s
  | .rti => Sys2Proof.Machine.execRti s
  | .brk => Sys2Proof.Machine.execBrk s
  -- 48_flag_nop.md
  | .clc => Sys2Proof.Machine.execClc s
  | .cld => Sys2Proof.Machine.execCld s
  | .cli => Sys2Proof.Machine.execCli s
  | .clv => Sys2Proof.Machine.execClv s
  | .sec => Sys2Proof.Machine.execSec s
  | .sed => Sys2Proof.Machine.execSed s
  | .sei => Sys2Proof.Machine.execSei s
  | .nop => Sys2Proof.Machine.execNop s
  -- 49_undefined_opcodes.md
  | .byte02 => Sys2Proof.Machine.execByte02 s
  | .byte03 => Sys2Proof.Machine.execByte03 s
  | .byte04 => Sys2Proof.Machine.execByte04 s
  | .byte07 => Sys2Proof.Machine.execByte07 s
  | .byte0B => Sys2Proof.Machine.execByte0B s
  | .byte0C => Sys2Proof.Machine.execByte0C s
  | .byte0F => Sys2Proof.Machine.execByte0F s
  | .byte12 => Sys2Proof.Machine.execByte12 s
  | .byte13 => Sys2Proof.Machine.execByte13 s
  | .byte14 => Sys2Proof.Machine.execByte14 s
  | .byte17 => Sys2Proof.Machine.execByte17 s
  | .byte1A => Sys2Proof.Machine.execByte1A s
  | .byte1B => Sys2Proof.Machine.execByte1B s
  | .byte1C => Sys2Proof.Machine.execByte1C s
  | .byte1F => Sys2Proof.Machine.execByte1F s
  | .byte22 => Sys2Proof.Machine.execByte22 s
  | .byte23 => Sys2Proof.Machine.execByte23 s
  | .byte27 => Sys2Proof.Machine.execByte27 s
  | .byte2B => Sys2Proof.Machine.execByte2B s
  | .byte2F => Sys2Proof.Machine.execByte2F s
  | .byte32 => Sys2Proof.Machine.execByte32 s
  | .byte33 => Sys2Proof.Machine.execByte33 s
  | .byte34 => Sys2Proof.Machine.execByte34 s
  | .byte37 => Sys2Proof.Machine.execByte37 s
  | .byte3A => Sys2Proof.Machine.execByte3A s
  | .byte3B => Sys2Proof.Machine.execByte3B s
  | .byte3C => Sys2Proof.Machine.execByte3C s
  | .byte3F => Sys2Proof.Machine.execByte3F s
  | .byte42 => Sys2Proof.Machine.execByte42 s
  | .byte43 => Sys2Proof.Machine.execByte43 s
  | .byte44 => Sys2Proof.Machine.execByte44 s
  | .byte47 => Sys2Proof.Machine.execByte47 s
  | .byte4B => Sys2Proof.Machine.execByte4B s
  | .byte4F => Sys2Proof.Machine.execByte4F s
  | .byte52 => Sys2Proof.Machine.execByte52 s
  | .byte53 => Sys2Proof.Machine.execByte53 s
  | .byte54 => Sys2Proof.Machine.execByte54 s
  | .byte57 => Sys2Proof.Machine.execByte57 s
  | .byte5A => Sys2Proof.Machine.execByte5A s
  | .byte5B => Sys2Proof.Machine.execByte5B s
  | .byte5C => Sys2Proof.Machine.execByte5C s
  | .byte5F => Sys2Proof.Machine.execByte5F s
  | .byte62 => Sys2Proof.Machine.execByte62 s
  | .byte63 => Sys2Proof.Machine.execByte63 s
  | .byte64 => Sys2Proof.Machine.execByte64 s
  | .byte67 => Sys2Proof.Machine.execByte67 s
  | .byte6B => Sys2Proof.Machine.execByte6B s
  | .byte6F => Sys2Proof.Machine.execByte6F s
  | .byte72 => Sys2Proof.Machine.execByte72 s
  | .byte73 => Sys2Proof.Machine.execByte73 s
  | .byte74 => Sys2Proof.Machine.execByte74 s
  | .byte77 => Sys2Proof.Machine.execByte77 s
  | .byte7A => Sys2Proof.Machine.execByte7A s
  | .byte7B => Sys2Proof.Machine.execByte7B s
  | .byte7C => Sys2Proof.Machine.execByte7C s
  | .byte7F => Sys2Proof.Machine.execByte7F s
  | .byte80 => Sys2Proof.Machine.execByte80 s
  | .byte82 => Sys2Proof.Machine.execByte82 s
  | .byte83 => Sys2Proof.Machine.execByte83 s
  | .byte87 => Sys2Proof.Machine.execByte87 s
  | .byte89 => Sys2Proof.Machine.execByte89 s
  | .byte8B => Sys2Proof.Machine.execByte8B s
  | .byte8F => Sys2Proof.Machine.execByte8F s
  | .byte92 => Sys2Proof.Machine.execByte92 s
  | .byte93 => Sys2Proof.Machine.execByte93 s
  | .byte97 => Sys2Proof.Machine.execByte97 s
  | .byte9B => Sys2Proof.Machine.execByte9B s
  | .byte9C => Sys2Proof.Machine.execByte9C s
  | .byte9E => Sys2Proof.Machine.execByte9E s
  | .byte9F => Sys2Proof.Machine.execByte9F s
  | .byteA3 => Sys2Proof.Machine.execByteA3 s
  | .byteA7 => Sys2Proof.Machine.execByteA7 s
  | .byteAB => Sys2Proof.Machine.execByteAB s
  | .byteAF => Sys2Proof.Machine.execByteAF s
  | .byteB2 => Sys2Proof.Machine.execByteB2 s
  | .byteB3 => Sys2Proof.Machine.execByteB3 s
  | .byteB7 => Sys2Proof.Machine.execByteB7 s
  | .byteBB => Sys2Proof.Machine.execByteBB s
  | .byteBF => Sys2Proof.Machine.execByteBF s
  | .byteC2 => Sys2Proof.Machine.execByteC2 s
  | .byteC3 => Sys2Proof.Machine.execByteC3 s
  | .byteC7 => Sys2Proof.Machine.execByteC7 s
  | .byteCB => Sys2Proof.Machine.execByteCB s
  | .byteCF => Sys2Proof.Machine.execByteCF s
  | .byteD2 => Sys2Proof.Machine.execByteD2 s
  | .byteD3 => Sys2Proof.Machine.execByteD3 s
  | .byteD4 => Sys2Proof.Machine.execByteD4 s
  | .byteD7 => Sys2Proof.Machine.execByteD7 s
  | .byteDA => Sys2Proof.Machine.execByteDA s
  | .byteDB => Sys2Proof.Machine.execByteDB s
  | .byteDC => Sys2Proof.Machine.execByteDC s
  | .byteDF => Sys2Proof.Machine.execByteDF s
  | .byteE2 => Sys2Proof.Machine.execByteE2 s
  | .byteE3 => Sys2Proof.Machine.execByteE3 s
  | .byteE7 => Sys2Proof.Machine.execByteE7 s
  | .byteEB => Sys2Proof.Machine.execByteEB s
  | .byteEF => Sys2Proof.Machine.execByteEF s
  | .byteF2 => Sys2Proof.Machine.execByteF2 s
  | .byteF3 => Sys2Proof.Machine.execByteF3 s
  | .byteF4 => Sys2Proof.Machine.execByteF4 s
  | .byteF7 => Sys2Proof.Machine.execByteF7 s
  | .byteFA => Sys2Proof.Machine.execByteFA s
  | .byteFB => Sys2Proof.Machine.execByteFB s
  | .byteFC => Sys2Proof.Machine.execByteFC s
  | .byteFF => Sys2Proof.Machine.execByteFF s

end Sys2Proof.Machine
end

