-- ==== Sys2Proof/Machine/Step.lean ====
section
/-! DEFINITION. One step of the machine: a pending `classify` call is answered; otherwise one turn of the caller's loop
of rule R77, which is one `decode` call at the cursor; otherwise, at the stop bound, no call is made. -/

namespace Sys2Proof.Machine

/-- One step. A pending `classify` comes before the loop's next `decode` (assumption log 6); the loop runs while
`offset < stop` (rule R77, decision D18) and each turn is one atomic call (rule R38); a call outside the contract is
refused before the opcode is looked at (rules R31, R194); at the end of the run nothing changes (rule R218, assumption
log 7). -/
def step (s : State) : Host.Outcome State Fault Refusal :=
  match s.opcodeByte with
  | some b => .next (s.answerClassify b)
  | none =>
    if s.offset < s.stop then
      if s.contract then exec (decodeThree (s.byteAt 0) (s.byteAt 1) (s.byteAt 2)) s
      else .refused .bufferBound
    else .next s

/-- The cursor `withFetchWord` runs the instruction at: the state's own where three bytes of address space follow, else
0 (assumption log 8): no byte of an instruction is placed in the padding. -/
def State.fetchOffset (s : State) : Cursor := if s.offset.toNat + 3 ≤ Config.addrBound then s.offset else 0

/-- The state with the instruction of `nbits` bits `w` placed where `step` decodes next (assumption log 8): its three
bytes at the cursor, no `classify` pending, the cursor a legal offset below the stop bound, and the image and the
buffer at least long enough to hold it with two bytes of padding (log 28). -/
def State.withFetchWord (s : State) (nbits w : Nat) : State :=
  { s with
    opcodeByte := none
    offset := s.fetchOffset
    stop := if s.fetchOffset < s.stop then s.stop else s.fetchOffset + 1
    mem := s.mem.writeList s.fetchOffset.toNat (tableBytes nbits w)
    imageLen := max s.imageLen (s.fetchOffset.toNat + 3)
    bufLen := max s.bufLen (max s.imageLen (s.fetchOffset.toNat + 3) + Config.pad) }

end Sys2Proof.Machine
end

