-- ==== Sys2Proof/Machine/Caller.lean ====
section
/-! DEFINITION. The caller's moves between calls (rules R212, R223): the only other agent. `step` makes none of them;
they are the host interface, and claims about what a call sees of the caller's writes are stated with them. `CallerMove`
lists them all. What rule R223 assumes the caller never does is no move here: none changes the ROM, sets an offset above
65535, takes padding away, or acts during a call (`step` makes a whole call). -/

namespace Sys2Proof.Machine

/-- Load an image of 1 to 65536 bytes and write the padding: the buffer is the image and two zero bytes (rules R30,
R212 items 1 and 2). The rules ask for at least two; that this move gives exactly two is a DESIGN CHOICE (assumption log 28),
and `State.morePadding` gives more. The bounds of an earlier run are put back to 0, since they were bounds in the
image that is gone (assumption log 29). `none` for an image the caller must not load. -/
def State.loadImage (s : State) (image : List Byte) : Option State :=
  if 1 ≤ image.length ∧ image.length ≤ Config.addrBound then
    some { s with
      mem := Memory.writeList [] 0 image
      imageLen := image.length
      bufLen := image.length + Config.pad
      start := 0
      offset := 0
      stop := 0 }
  else none

/-- Add `n` zero bytes after the buffer: the caller may pad by more than two bytes (`PAD >= 2`, rules R5, R30, R212). The
bytes are unlisted, so they read as zero. -/
def State.morePadding (s : State) (n : Nat) : State := { s with bufLen := s.bufLen + n }

/-- Write one byte of the image between calls (rules R38, R42). `none` beyond the image: the padding stays zero. -/
def State.writeByte (s : State) (a : Nat) (b : Byte) : Option State :=
  if a < s.imageLen then some { s with mem := s.mem.write a b } else none

/-- Whether `start` and `stop` are bounds of a run of the loaded image: premise RUN_BOUNDS (rules R212 item 3, R224). -/
def State.runBounds (s : State) (start stop : Cursor) : Bool :=
  decide (start.toNat < s.imageLen ∧ start.toNat ≤ stop.toNat ∧ stop.toNat ≤ s.imageLen ∧ s.imageLen ≤ Config.addrBound)

/-- Choose the bounds and the annotation switch and begin the loop of rule R77: the cursor is `start` and no record has
been appended. `none` where premise RUN_BOUNDS fails (rules R212 items 3 and 5, R224). -/
def State.beginRun (s : State) (start stop : Cursor) (cycleEn : Bool) : Option State :=
  if s.runBounds start stop then
    some { s with start := start, offset := start, stop := stop, cycleEn := cycleEn, lines := [] }
  else none

/-- Ask for a `classify` call (rule R70). -/
def State.requestClassify (s : State) (b : Byte) : State := { s with opcodeByte := some b }

/-- Set the cursor between calls: the caller owns it (rules R19, R223). `none` above 65535: the caller never passes such
an offset (premise OFFSET_IN_RANGE, rules R223, R224). -/
def State.setOffset (s : State) (offset : Cursor) : Option State :=
  if offset.toNat ≤ 65535 then some { s with offset := offset } else none

/-- Set the stop bound between calls (rule R223). `none` where premise RUN_BOUNDS would fail (rule R224), so that no turn
of the loop is made outside the padded buffer. -/
def State.setStop (s : State) (stop : Cursor) : Option State :=
  if s.runBounds s.start stop then some { s with stop := stop } else none

/-- Set the annotation switch between calls (rules R22, R223). -/
def State.setCycleEn (s : State) (cycleEn : Bool) : State := { s with cycleEn := cycleEn }

/-- Choose the wording of the marker (rule R5). -/
def State.setInvalidMarker (s : State) (marker : String) : State := { s with invalidMarker := marker }

/-- A move of the caller between two calls: every one that rules R212 and R223 give it. -/
inductive CallerMove where
  | loadImage (image : List Byte)
  | morePadding (n : Nat)
  | writeByte (a : Nat) (b : Byte)
  | beginRun (start stop : Cursor) (cycleEn : Bool)
  | requestClassify (b : Byte)
  | setOffset (offset : Cursor)
  | setStop (stop : Cursor)
  | setCycleEn (cycleEn : Bool)
  | setInvalidMarker (marker : String)
deriving DecidableEq, Repr

/-- The state after a move; `none` where the caller may not make it (rule R223). -/
def CallerMove.apply : CallerMove → State → Option State
  | .loadImage image, s => s.loadImage image
  | .morePadding n, s => some (s.morePadding n)
  | .writeByte a b, s => s.writeByte a b
  | .beginRun start stop c, s => s.beginRun start stop c
  | .requestClassify b, s => some (s.requestClassify b)
  | .setOffset offset, s => s.setOffset offset
  | .setStop stop, s => s.setStop stop
  | .setCycleEn c, s => some (s.setCycleEn c)
  | .setInvalidMarker m, s => some (s.setInvalidMarker m)

/-- The state after reset of a machine whose table is `rom`: `OPTAB` is a parameter of the model (rules R5, R27, decision
D15). It is a first state, not a move: nothing writes the ROM of a machine that runs (rules R215, R223). -/
def State.resetWith (rom : Optab) : State := { State.reset with optab := rom }

end Sys2Proof.Machine
end

