-- ==== Sys2Proof/WellFormed.lean ====
section
/-! DEFINITION. When an instruction is well formed under an opcode ROM. Operand values are never ill formed (rule R192:
every operand byte value is legal in every mode); what can fail is that a ROM, which is a parameter (rule R5), gives
the instruction's opcode another length or no name. Under the default ROM every instruction is well formed. -/

namespace Sys2Proof

/-- The instruction has exactly the operand bytes that the ROM's record of its opcode consumes (rules R51, R52). -/
def Instr.lengthFits (rom : Optab) (i : Instr) : Bool :=
  i.operand.length == (rom.get i.opcode).operandWidth

/-- A record marked valid has a name and not the sentinel (rules R12, R18). -/
def OpcodeEntry.named (e : OpcodeEntry) : Bool :=
  match e.valid, e.mnemonic with
  | false, _ => true
  | true, .name _ => true
  | true, .illegal => false

/-- The ROM's record of the instruction's opcode has a name if it is valid. -/
def Instr.entryNamed (rom : Optab) (i : Instr) : Bool := (rom.get i.opcode).named

/-- Both checks, under any ROM. -/
def Instr.wellFormedIn (rom : Optab) (i : Instr) : Bool := i.lengthFits rom && i.entryNamed rom

/-- Well formed under the default ROM. -/
def Instr.wellFormed (i : Instr) : Bool := i.wellFormedIn defaultOptab

end Sys2Proof
end

