-- ==== Sys2Proof/Safety.lean ====
section
/-! DEFINITION. The named premises of rule R224, and the invariant of a run of the caller's loop, in which the claims
are stated. -/

namespace Sys2Proof

/-- A record is well formed: if valid, its mnemonic is three upper-case ASCII letters (rules R11, R12). -/
def OpcodeEntry.wellformed (e : OpcodeEntry) : Bool :=
  match e.valid, e.mnemonic with
  | false, _ => true
  | true, .name t => t.toList.length == 3 && t.toList.all Char.isUpper
  | true, .illegal => false

/-- Premise ROM_WELLFORMED (rule R224). That there are 256 records and that every mode is one of the thirteen is in the
types. -/
def RomWellformed (rom : Optab) : Prop := ∀ b : Byte, (rom.get b).wellformed = true

/-- Premise ROM_PINNED: the five records the document states (rules R17, R224). -/
def RomPinned (rom : Optab) : Prop :=
  (rom.get 0x02).valid = false ∧
  rom.get 0x69 = ⟨.name "ADC", .immediate, 2, ⟨false, false⟩, true⟩ ∧
  rom.get 0x90 = ⟨.name "BCC", .relative, 2, ⟨true, true⟩, true⟩ ∧
  rom.get 0xBD = ⟨.name "LDA", .absoluteIndexedX, 4, ⟨true, false⟩, true⟩ ∧
  rom.get 0xF0 = ⟨.name "BEQ", .relative, 2, ⟨true, true⟩, true⟩

/-- Premise ROM_DEFAULT (rule R224): the ROM is spec/opcode_table.json. -/
def RomDefault (rom : Optab) : Prop := rom = defaultOptab

namespace Machine

/-- Premise OFFSET_IN_RANGE (rule R224). -/
def OffsetInRange (s : State) : Prop := s.offset.toNat ≤ 65535

/-- Premise BUF_PADDED for one call (rule R224). Premise BUF_STABLE is in the shape of `step`: the buffer is one value. -/
def BufPadded (s : State) : Prop := s.offset.toNat + 2 < s.bufLen

/-- The buffer is an image of `L` bytes and at least two bytes of zero padding, in canonical form (rule R30). -/
structure BufferOk (s : State) : Prop where
  image_pos : 1 ≤ s.imageLen
  image_le : s.imageLen ≤ Config.addrBound
  padded : s.imageLen + Config.pad ≤ s.bufLen
  canonical : s.mem.wf = true
  in_image : ∀ c ∈ s.mem, c.1 < s.imageLen

/-- Premise RUN_BOUNDS: `0 <= start < L`, `start <= stop <= L <= 65536` (rule R224). -/
structure RunBounds (s : State) : Prop where
  start_lt : s.start.toNat < s.imageLen
  start_le : s.start.toNat ≤ s.stop.toNat
  stop_le : s.stop.toNat ≤ s.imageLen
  image_le : s.imageLen ≤ Config.addrBound

/-- What the caller keeps (rules R212, R223): every call it can make meets the premises of rule R224. -/
structure CallerOk (s : State) : Prop where
  /-- premise ROM_WELLFORMED -/
  rom : RomWellformed s.optab
  /-- the buffer is padded (premise BUF_PADDED, the run-level form) -/
  buffer : BufferOk s
  /-- premise RUN_BOUNDS -/
  bounds : RunBounds s

/-- The records lie one after another with no gap from cursor `a` to cursor `z` (rules R33, R57, R77): each begins where
the one before ended, at its opcode byte and its operand bytes. -/
def Contiguous : Nat → List DecodedInstruction → Nat → Prop
  | a, [], z => a = z
  | a, d :: ds, z => d.offset.toNat = a ∧ Contiguous (a + 1 + d.operand.length) ds z

/-- The invariant of a run of the caller's loop (rules R30, R77, R78, R224). -/
structure RunInv (s : State) : Prop where
  /-- premise ROM_WELLFORMED -/
  rom : RomWellformed s.optab
  /-- the buffer is padded -/
  buffer : BufferOk s
  /-- premise RUN_BOUNDS -/
  bounds : RunBounds s
  /-- the cursor overshoots the stop bound by at most 2 -/
  cursor_le : s.offset.toNat ≤ s.stop.toNat + 2
  /-- the appended records are a linear sweep from the start offset to the cursor -/
  sweep : Contiguous s.start.toNat s.lines s.offset.toNat
  /-- each is what `decode` gives at its offset -/
  sound : ∀ d ∈ s.lines, ∃ next, s.decodeAt d.offset = some (d, next)
  /-- the outputs of the last call are the last record and the cursor -/
  outputs : s.lines ≠ [] → s.record = s.lines.getLast? ∧ s.nextOffset = some s.offset

/-- A step is safe when it answers a next state: neither a fault nor a refusal (rule R204). -/
def StepSafe (s : State) : Prop := ∃ t, step s = .next t

end Machine

end Sys2Proof
end

