-- ==== Sys2Proof/Certificates/Slice0/Obligations.lean ====
section
/-! DEFINITION. The statements for the provers. The first part transcribes the spec's pseudocode a second time, in
arithmetic on numbers and apart from the model's own definitions, so that the statements do not lean on the definitions
they are about. -/

namespace Sys2Proof.Spec

open Machine

/-! ### The spec's pseudocode, on numbers -/

/-- `digit(n)` of rule R98. -/
def digit (n : Nat) : Char := "0123456789ABCDEF".toList.getD n '?'

/-- `hex2(v)` of rule R98. -/
def hex2 (v : Nat) : String := String.ofList [digit (v / 16), digit (v % 16)]

/-- `hex4(v)` of rule R98. -/
def hex4 (v : Nat) : String := hex2 (v / 256) ++ hex2 (v % 256)

/-- `sext_16(b)` of rule R6, as an integer in [-128, 127]. -/
def sext (b : Byte) : Int := if b.toNat < 128 then (b.toNat : Int) else (b.toNat : Int) - 256

/-- The 16-bit address after an instruction at `offset` with `w` operand bytes (rule R105). -/
def after (offset w : Nat) : Nat := (offset + 1 + w) % 65536

/-- The Relative target (rule R96). -/
def target (offset : Nat) (b : Byte) : Nat := (((after offset 1 : Nat) + sext b) % 65536).toNat

/-- `word` of rule R53. -/
def word (lo hi : Byte) : Nat := hi.toNat * 256 + lo.toNat

/-- `width(mode)` of rule R52. -/
def width (m : Mode) : Nat :=
  if m = .implied ∨ m = .accumulator then 0
  else if m = .absolute ∨ m = .indirectAbsolute ∨ m = .absoluteIndexedX ∨ m = .absoluteIndexedY then 2
  else 1

/-- The length in bytes of the instruction whose ROM record is `e` (rule R51). -/
def length (e : OpcodeEntry) : Nat := if e.valid = true then 1 + width e.mode else 1

/-- `crosses(a, t)` of rule R106. -/
def crosses (a t : Nat) : Prop := a / 256 ≠ t / 256

/-- The annotation of rules R105 and R107 to R109, with decision D20 for a resolved value that is absent. -/
def annotate (e : OpcodeEntry) (offset : Nat) (resolved : Option Nat) : Cycles :=
  if e.flags = ⟨false, false⟩ then .single e.baseCycles
  else if e.flags = ⟨true, true⟩ then
    if ∃ t ∈ resolved, after offset (width e.mode) / 256 ≠ t / 256
      then .pair (e.baseCycles + 1) (e.baseCycles + 2)
      else .pair e.baseCycles (e.baseCycles + 1)
  else .pair e.baseCycles (e.baseCycles + 1)

/-- `cycles_text` of rule R110. -/
def cyclesText : Cycles → String
  | .single n => toString n
  | .pair n m => toString n ++ "/" ++ toString m

/-- The text after the mnemonic, its space included, and the resolved value (rules R58, R85 to R97, R99). -/
def render (m : Mode) (b0 b1 : Byte) (offset : Nat) : String × Option Nat :=
  match m with
  | .immediate => (" #$" ++ hex2 b0.toNat, none)
  | .absolute => (" $" ++ hex4 (word b0 b1), some (word b0 b1))
  | .zeroPage => (" $" ++ hex2 b0.toNat, none)
  | .implied => ("", none)
  | .indirectAbsolute => (" ($" ++ hex4 (word b0 b1) ++ ")", some (word b0 b1))
  | .absoluteIndexedX => (" $" ++ hex4 (word b0 b1) ++ ",X", some (word b0 b1))
  | .absoluteIndexedY => (" $" ++ hex4 (word b0 b1) ++ ",Y", some (word b0 b1))
  | .zeroPageIndexedX => (" $" ++ hex2 b0.toNat ++ ",X", none)
  | .zeroPageIndexedY => (" $" ++ hex2 b0.toNat ++ ",Y", none)
  | .indexedIndirectX => (" ($" ++ hex2 b0.toNat ++ ",X)", none)
  | .indirectIndexedY => (" ($" ++ hex2 b0.toNat ++ "),Y", none)
  | .relative => (" $" ++ hex4 (target offset b0), some (target offset b0))
  | .accumulator => (" A", none)

/-- The printed name; a ROM that is well formed never has a sentinel here. -/
def printedName : Mnemonic → String
  | .name t => t
  | .illegal => ""

/-- The record of an undefined opcode byte (rule R72). -/
def undefinedLine (e : OpcodeEntry) (op : Byte) (offset : Nat) : DecodedInstruction where
  offset := BitVec.ofNat 16 offset
  opcode := op
  mode := e.mode
  operand := []
  resolved := none
  text := ".byte $" ++ hex2 op.toNat
  invalid := true
  cycles := none
  cyclesText := none

/-- The record of a valid opcode byte (rule R73). -/
def validLine (e : OpcodeEntry) (op b0 b1 : Byte) (offset : Nat) (cycleEn : Bool) : DecodedInstruction where
  offset := BitVec.ofNat 16 offset
  opcode := op
  mode := e.mode
  operand := if width e.mode = 0 then [] else if width e.mode = 1 then [b0] else [b0, b1]
  resolved := (render e.mode b0 b1 offset).2.map (BitVec.ofNat 16)
  text := printedName e.mnemonic ++ (render e.mode b0 b1 offset).1
  invalid := false
  cycles := if cycleEn then some (annotate e offset (render e.mode b0 b1 offset).2) else none
  cyclesText := if cycleEn then some (cyclesText (annotate e offset (render e.mode b0 b1 offset).2)) else none

/-- The record `decode` returns, from the opcode byte, its ROM record and the two bytes after it (rules R71 to R73). -/
def line (e : OpcodeEntry) (op b0 b1 : Byte) (offset : Nat) (cycleEn : Bool) : DecodedInstruction :=
  if e.valid = true then validLine e op b0 b1 offset cycleEn else undefinedLine e op offset

/-- A call returns `d` and the caller's loop takes it: the record is appended and the cursor is `length` further, in 17
bits (rules R19, R73, R77). Every other field is as before. -/
def returns (s : State) (d : DecodedInstruction) (length : Nat) : State :=
  { s with
    record := some d
    nextOffset := some (BitVec.ofNat 17 (s.offset.toNat + length))
    offset := BitVec.ofNat 17 (s.offset.toNat + length)
    lines := s.lines ++ [d] }

/-- The byte a call for `i` sees first after the opcode: its own operand byte where it has one, else the buffer's. -/
def operand0 (i : Instr) (s : State) : Byte := i.operand.getD 0 (s.byteAt 1)

/-- The byte a call for `i` sees second after the opcode. -/
def operand1 (i : Instr) (s : State) : Byte := i.operand.getD 1 (s.byteAt 2)

/-- The 56 names of rule R12, as the rule lists them. -/
def mnemonics : List String :=
  ["ADC", "AND", "ASL", "BCC", "BCS", "BEQ", "BIT", "BMI", "BNE", "BPL", "BRK", "BVC", "BVS", "CLC", "CLD", "CLI", "CLV",
    "CMP", "CPX", "CPY", "DEC", "DEX", "DEY", "EOR", "INC"] ++
  ["INX", "INY", "JMP", "JSR", "LDA", "LDX", "LDY", "LSR", "NOP", "ORA", "PHA", "PHP", "PLA", "PLP", "ROL", "ROR", "RTI",
    "RTS", "SBC", "SEC", "SED", "SEI", "STA", "STX", "STY"] ++
  ["TAX", "TAY", "TSX", "TXA", "TXS", "TYA"]

/-! ### The next state of an instruction, by addressing mode -/

/-- The state after a call that returns a valid line of the mode, operand, resolved value, text and annotation given. -/
def lineState (s : State) (mode : Mode) (op : Byte) (operand : List Byte) (resolved : Option Word) (text : String)
    (cost : Cycles) : State :=
  returns s
    { offset := BitVec.ofNat 16 s.offset.toNat, opcode := op, mode := mode, operand := operand, resolved := resolved,
      text := text, invalid := false, cycles := if s.cycleEn then some cost else none,
      cyclesText := if s.cycleEn then some (cyclesText cost) else none }
    (1 + operand.length)

/-- The low byte of a word, stored first (rule R32). -/
def low (w : Word) : Byte := BitVec.ofNat 8 (w.toNat % 256)

/-- The high byte of a word, stored second (rule R32). -/
def high (w : Word) : Byte := BitVec.ofNat 8 (w.toNat / 256)

/-- Rule R85. -/
def imm (s : State) (m : String) (op b : Byte) (cost : Cycles) : State :=
  lineState s .immediate op [b] none (m ++ " #$" ++ hex2 b.toNat) cost
/-- Rule R86. -/
def abs (s : State) (m : String) (op : Byte) (w : Word) (cost : Cycles) : State :=
  lineState s .absolute op [low w, high w] (some w) (m ++ " $" ++ hex4 w.toNat) cost
/-- Rule R87. -/
def zp (s : State) (m : String) (op b : Byte) (cost : Cycles) : State :=
  lineState s .zeroPage op [b] none (m ++ " $" ++ hex2 b.toNat) cost
/-- Rule R88. -/
def imp (s : State) (m : String) (op : Byte) (cost : Cycles) : State :=
  lineState s .implied op [] none m cost
/-- Rule R89. -/
def ind (s : State) (m : String) (op : Byte) (w : Word) (cost : Cycles) : State :=
  lineState s .indirectAbsolute op [low w, high w] (some w) (m ++ " ($" ++ hex4 w.toNat ++ ")") cost
/-- Rule R90. -/
def abx (s : State) (m : String) (op : Byte) (w : Word) (cost : Cycles) : State :=
  lineState s .absoluteIndexedX op [low w, high w] (some w) (m ++ " $" ++ hex4 w.toNat ++ ",X") cost
/-- Rule R91. -/
def aby (s : State) (m : String) (op : Byte) (w : Word) (cost : Cycles) : State :=
  lineState s .absoluteIndexedY op [low w, high w] (some w) (m ++ " $" ++ hex4 w.toNat ++ ",Y") cost
/-- Rule R92. -/
def zpx (s : State) (m : String) (op b : Byte) (cost : Cycles) : State :=
  lineState s .zeroPageIndexedX op [b] none (m ++ " $" ++ hex2 b.toNat ++ ",X") cost
/-- Rule R93. -/
def zpy (s : State) (m : String) (op b : Byte) (cost : Cycles) : State :=
  lineState s .zeroPageIndexedY op [b] none (m ++ " $" ++ hex2 b.toNat ++ ",Y") cost
/-- Rule R94. -/
def izx (s : State) (m : String) (op b : Byte) (cost : Cycles) : State :=
  lineState s .indexedIndirectX op [b] none (m ++ " ($" ++ hex2 b.toNat ++ ",X)") cost
/-- Rule R95. -/
def izy (s : State) (m : String) (op b : Byte) (cost : Cycles) : State :=
  lineState s .indirectIndexedY op [b] none (m ++ " ($" ++ hex2 b.toNat ++ "),Y") cost
/-- Rules R96 and R108: the annotation of a conditional branch of `base` cycles depends on the page test alone. -/
def rel (s : State) (m : String) (op d : Byte) (base : Nat) : State :=
  lineState s .relative op [d] (some (BitVec.ofNat 16 (target s.offset.toNat d)))
    (m ++ " $" ++ hex4 (target s.offset.toNat d))
    (if after s.offset.toNat 1 / 256 ≠ target s.offset.toNat d / 256 then .pair (base + 1) (base + 2)
      else .pair base (base + 1))
/-- Rule R97. -/
def acc (s : State) (m : String) (op : Byte) (cost : Cycles) : State :=
  lineState s .accumulator op [] none (m ++ " A") cost

/-- The state after a call at an undefined opcode byte under the default table (rule R180). -/
def byteState (s : State) (op : Byte) : State :=
  returns s
    { offset := BitVec.ofNat 16 s.offset.toNat, opcode := op, mode := .implied, operand := [], resolved := none,
      text := ".byte $" ++ hex2 op.toNat, invalid := true, cycles := none, cyclesText := none } 1

/-! ### The undefined opcode bytes of rule R180, each with its instruction -/

/-- Those of row 0 of the opcode map. -/
def undefinedRow0 : List (Instr × Byte) := [
  (.byte02, 0x02), (.byte03, 0x03), (.byte04, 0x04), (.byte07, 0x07), (.byte0B, 0x0B), (.byte0C, 0x0C),
  (.byte0F, 0x0F)]

/-- Those of row 1 of the opcode map. -/
def undefinedRow1 : List (Instr × Byte) := [
  (.byte12, 0x12), (.byte13, 0x13), (.byte14, 0x14), (.byte17, 0x17), (.byte1A, 0x1A), (.byte1B, 0x1B),
  (.byte1C, 0x1C), (.byte1F, 0x1F)]

/-- Those of row 2 of the opcode map. -/
def undefinedRow2 : List (Instr × Byte) := [
  (.byte22, 0x22), (.byte23, 0x23), (.byte27, 0x27), (.byte2B, 0x2B), (.byte2F, 0x2F)]

/-- Those of row 3 of the opcode map. -/
def undefinedRow3 : List (Instr × Byte) := [
  (.byte32, 0x32), (.byte33, 0x33), (.byte34, 0x34), (.byte37, 0x37), (.byte3A, 0x3A), (.byte3B, 0x3B),
  (.byte3C, 0x3C), (.byte3F, 0x3F)]

/-- Those of row 4 of the opcode map. -/
def undefinedRow4 : List (Instr × Byte) := [
  (.byte42, 0x42), (.byte43, 0x43), (.byte44, 0x44), (.byte47, 0x47), (.byte4B, 0x4B), (.byte4F, 0x4F)]

/-- Those of row 5 of the opcode map. -/
def undefinedRow5 : List (Instr × Byte) := [
  (.byte52, 0x52), (.byte53, 0x53), (.byte54, 0x54), (.byte57, 0x57), (.byte5A, 0x5A), (.byte5B, 0x5B),
  (.byte5C, 0x5C), (.byte5F, 0x5F)]

/-- Those of row 6 of the opcode map. -/
def undefinedRow6 : List (Instr × Byte) := [
  (.byte62, 0x62), (.byte63, 0x63), (.byte64, 0x64), (.byte67, 0x67), (.byte6B, 0x6B), (.byte6F, 0x6F)]

/-- Those of row 7 of the opcode map. -/
def undefinedRow7 : List (Instr × Byte) := [
  (.byte72, 0x72), (.byte73, 0x73), (.byte74, 0x74), (.byte77, 0x77), (.byte7A, 0x7A), (.byte7B, 0x7B),
  (.byte7C, 0x7C), (.byte7F, 0x7F)]

/-- Those of row 8 of the opcode map. -/
def undefinedRow8 : List (Instr × Byte) := [
  (.byte80, 0x80), (.byte82, 0x82), (.byte83, 0x83), (.byte87, 0x87), (.byte89, 0x89), (.byte8B, 0x8B),
  (.byte8F, 0x8F)]

/-- Those of row 9 of the opcode map. -/
def undefinedRow9 : List (Instr × Byte) := [
  (.byte92, 0x92), (.byte93, 0x93), (.byte97, 0x97), (.byte9B, 0x9B), (.byte9C, 0x9C), (.byte9E, 0x9E),
  (.byte9F, 0x9F)]

/-- Those of row A of the opcode map. -/
def undefinedRowA : List (Instr × Byte) := [
  (.byteA3, 0xA3), (.byteA7, 0xA7), (.byteAB, 0xAB), (.byteAF, 0xAF)]

/-- Those of row B of the opcode map. -/
def undefinedRowB : List (Instr × Byte) := [
  (.byteB2, 0xB2), (.byteB3, 0xB3), (.byteB7, 0xB7), (.byteBB, 0xBB), (.byteBF, 0xBF)]

/-- Those of row C of the opcode map. -/
def undefinedRowC : List (Instr × Byte) := [
  (.byteC2, 0xC2), (.byteC3, 0xC3), (.byteC7, 0xC7), (.byteCB, 0xCB), (.byteCF, 0xCF)]

/-- Those of row D of the opcode map. -/
def undefinedRowD : List (Instr × Byte) := [
  (.byteD2, 0xD2), (.byteD3, 0xD3), (.byteD4, 0xD4), (.byteD7, 0xD7), (.byteDA, 0xDA), (.byteDB, 0xDB),
  (.byteDC, 0xDC), (.byteDF, 0xDF)]

/-- Those of row E of the opcode map. -/
def undefinedRowE : List (Instr × Byte) := [
  (.byteE2, 0xE2), (.byteE3, 0xE3), (.byteE7, 0xE7), (.byteEB, 0xEB), (.byteEF, 0xEF)]

/-- Those of row F of the opcode map. -/
def undefinedRowF : List (Instr × Byte) := [
  (.byteF2, 0xF2), (.byteF3, 0xF3), (.byteF4, 0xF4), (.byteF7, 0xF7), (.byteFA, 0xFA), (.byteFB, 0xFB),
  (.byteFC, 0xFC), (.byteFF, 0xFF)]

/-- All 105. -/
def undefinedRows : List (Instr × Byte) :=
  undefinedRow0 ++ undefinedRow1 ++ undefinedRow2 ++ undefinedRow3 ++ undefinedRow4 ++ undefinedRow5 ++ undefinedRow6 ++
  undefinedRow7 ++ undefinedRow8 ++ undefinedRow9 ++ undefinedRowA ++ undefinedRowB ++ undefinedRowC ++ undefinedRowD ++
  undefinedRowE ++ undefinedRowF

end Sys2Proof.Spec

section

open Sys2Proof Sys2Proof.Machine

/-! ### Encoding -/

/-- 30_encoding.md: every instruction is well formed, and decoding its encoding gives it back, whatever bytes follow. -/
def Obligations.DecodeEncodeRoundTrip : Prop :=
  ∀ (i : Instr) (rest : List Byte), i.wellFormed = true ∧ decode (encode i ++ rest) = .ok (i, rest)

/-- 30_encoding.md: decoding drops no bit: the instruction's encoding and the rest are the bytes that were there. -/
def Obligations.DecodedBytesAreItsEncoding : Prop :=
  ∀ (bytes : List Byte) (i : Instr) (rest : List Byte), decode bytes = .ok (i, rest) → encode i ++ rest = bytes

/-- Rules R51, R52, R55 and R56: no opcode byte is rejected; decoding stops only where the operand bytes that the default
table gives the opcode are not there, and takes exactly those otherwise. -/
def Obligations.DecodeRejectsOnlyShortInput : Prop :=
  decode [] = .error .noOpcode ∧
  ∀ (op : Byte) (rest : List Byte),
    (rest.length < (defaultOptab.get op).operandWidth → decode (op :: rest) = .error (.truncated op)) ∧
    ((defaultOptab.get op).operandWidth ≤ rest.length →
      ∃ i, decode (op :: rest) = .ok (i, rest.drop (defaultOptab.get op).operandWidth) ∧ i.opcode = op)

/-- Rules R50 and R55: words written out from the encodings, one or more of each file's, decode to what they stand for. -/
def Obligations.WrittenWordsDecode : Prop :=
  decodeTableWord 16 0b00010000_10101001 = some (.ldaImm 0b00010000) ∧
  decodeTableWord 24 0b00000010_00000000_10111101 = some (.ldaAbx 0b00000010_00000000) ∧
  decodeTableWord 8 0b01001000 = some .pha ∧
  decodeTableWord 16 0b01111111_01101001 = some (.adcImm 0b01111111) ∧
  decodeTableWord 8 0b00001010 = some .aslAcc ∧
  decodeTableWord 16 0b11111110_10010000 = some (.bcc 0b11111110) ∧
  decodeTableWord 24 0b00010000_11111111_01101100 = some (.jmpInd 0b00010000_11111111) ∧
  decodeTableWord 8 0b11101010 = some .nop ∧
  decodeTableWord 8 0b00000010 = some .byte02

/-! ### The opcode ROM, classify, reset -/

/-- Rules R17 and R224: the machine starts with a ROM that holds the five records the document states. -/
def Obligations.ResetRomIsPinned : Prop := RomPinned State.reset.optab

/-- Rules R17, R27 and R210: at reset the ROM holds its table, well formed; no call has returned and nothing is latched.
That the table is the default one is decision D15 (log 1). The rules give the caller's input `opcode_byte` no reset value: that
no `classify` is pending is the model's own choice (log 4); that the answer of `classify` and the list of lines are kept at all,
and so are empty before a call has returned, is the model's too (logs 4 and 26). -/
def Obligations.ResetLeavesOnlyTheRom : Prop :=
  State.reset.optab = defaultOptab ∧ RomWellformed State.reset.optab ∧ State.reset.record = none ∧
  State.reset.nextOffset = none ∧ State.reset.entry = none ∧ State.reset.lines = [] ∧ State.reset.opcodeByte = none

/-- Rule R70: `classify` answers the ROM record as it stands, for every byte and every state (no buffer is needed, no
contract holds or fails), and changes nothing but its own result. That a pending `classify` is answered before a `decode` call
that is also due is the model's choice of order (log 6), which no rule of the spec states. -/
def Obligations.ClassifyAnswersTheRecord : Prop :=
  ∀ (s : State) (b : Byte), s.opcodeByte = some b →
    step s = .next { s with opcodeByte := none, entry := some (s.optab.get b) }

/-- Rules R55 and R220: the census of the default table (log 1: its contents are the spec's own). -/
def Obligations.DefaultTableCensus : Prop :=
  let valid := defaultOptab.toList.filter (·.valid)
  valid.length = 151 ∧ (valid.map (·.mnemonic)).dedup.length = 56 ∧
  (valid.filter (·.operandWidth = 0)).length = 29 ∧ (valid.filter (·.operandWidth = 1)).length = 74 ∧
  (valid.filter (·.operandWidth = 2)).length = 48 ∧
  [Mode.implied, .accumulator, .immediate, .zeroPage, .zeroPageIndexedX, .zeroPageIndexedY, .absolute,
    .absoluteIndexedX, .absoluteIndexedY, .indirectAbsolute, .indexedIndirectX, .indirectIndexedY, .relative].map
    (fun m => (valid.filter (·.mode = m)).length) = [25, 4, 11, 21, 16, 2, 23, 15, 9, 1, 8, 8, 8] ∧
  [2, 3, 4, 5, 6, 7].map (fun n => (valid.filter (·.baseCycles = n)).length) = [41, 18, 45, 16, 24, 7] ∧
  (valid.filter (·.flags = ⟨true, false⟩)).length = 23 ∧ (valid.filter (·.flags = ⟨true, true⟩)).length = 8 ∧
  (valid.filter (·.flags = ⟨false, true⟩)).length = 0

/-- Rules R18 and R180: the invalid bytes of the default table are exactly the 105 listed, and each record holds the
filler of decision D11 (log 2). -/
def Obligations.UndefinedBytesOfTheTable : Prop :=
  Spec.undefinedRows.length = 105 ∧
  ∀ b : Byte, ((defaultOptab.get b).valid = false ↔ b ∈ Spec.undefinedRows.map Prod.snd) ∧
    ((defaultOptab.get b).valid = false → defaultOptab.get b = ⟨.illegal, .implied, 0, ⟨false, false⟩, false⟩)

/-- Rules R12, R13 and R15 (decision D16, log 18: the codes are the spec's suggestion and nothing depends on them): the code
of each mode, Immediate 0 to Accumulator 12; PageCrossPenalty as bit 0 and BranchTakenPenalty as bit 1; the code of each of
the 56 mnemonics, its alphabetical rank 0 (ADC) to 55 (TYA), which is the number of the 56 names before it; 63 for the
sentinel; and every valid record of the default table (log 1) holds one of the 56 names. -/
def Obligations.PackedCodes : Prop :=
  [Mode.immediate, .absolute, .zeroPage, .implied, .indirectAbsolute, .absoluteIndexedX, .absoluteIndexedY,
    .zeroPageIndexedX, .zeroPageIndexedY, .indexedIndirectX, .indirectIndexedY, .relative, .accumulator].map Mode.code =
    [0, 1, 2, 3, 4, 5, 6, 7, 8, 9, 10, 11, 12] ∧
  (∀ f : PenaltyFlags, f.code = (if f.pageCross then 1 else 0) + (if f.branchTaken then 2 else 0)) ∧
  Spec.mnemonics.length = 56 ∧
  (∀ t ∈ Spec.mnemonics, (Mnemonic.name t).code = some (Spec.mnemonics.countP (fun u => decide (u < t)))) ∧
  Spec.mnemonics.map (fun t => (Mnemonic.name t).code) = (List.range 56).map some ∧
  Mnemonic.illegal.code = some 63 ∧
  ∀ b : Byte, (defaultOptab.get b).valid = true → ∃ t ∈ Spec.mnemonics, (defaultOptab.get b).mnemonic = .name t

/-! ### A step -/

/-- Rules R71 and R77: when no `classify` is pending, the cursor is below the stop bound and a call is within its
contract, a step runs the instruction that the bytes at the cursor decode to (and, rule R31, those bytes exist). -/
def Obligations.StepRunsDecodedInstruction : Prop :=
  ∀ (s : State) (i : Instr) (rest : List Byte),
    s.opcodeByte = none → s.offset < s.stop → s.contract = true → decode s.fetchBytes = .ok (i, rest) →
    step s = exec i s ∧
      s.memRead s.offset.toNat = .ok (s.byteAt 0) ∧ s.memRead (s.offset.toNat + 1) = .ok (s.byteAt 1) ∧
      s.memRead (s.offset.toNat + 2) = .ok (s.byteAt 2)

/-- Rules R77 and R218: at or beyond the stop bound the run has ended: no call is made and nothing changes. That the
model then steps to the same state is log 7. -/
def Obligations.StepIsIdleAtTheStopBound : Prop :=
  ∀ s : State, s.opcodeByte = none → s.stop.toNat ≤ s.offset.toNat → step s = .next s

/-- Rules R31, R192, R194 and R204: with a well-formed ROM a step answers a next state unless it is a call outside the
contract, and then it is refused, whatever the opcode byte is; the contract is an offset of at most 65535 with two more
bytes in the buffer, that is, three reads none of which is refused. That a pending `classify` is answered first, so that its
step is safe even where the due call is outside the contract, is the model's choice (log 6), and so is the step that changes
nothing at the stop bound (log 7). -/
def Obligations.StepStopsExactlyOutsideTheContract : Prop :=
  ∀ s : State, RomWellformed s.optab →
    (s.contract = true ↔ s.offset.toNat ≤ 65535 ∧ s.offset.toNat + 2 < s.bufLen) ∧
    (s.contract = true ↔ s.offset.toNat ≤ 65535 ∧ ∀ k ≤ 2, ∃ v, s.memRead (s.offset.toNat + k) = .ok v) ∧
    (StepSafe s ↔ s.opcodeByte ≠ none ∨ s.stop.toNat ≤ s.offset.toNat ∨ s.contract = true) ∧
    (¬ StepSafe s → step s = .refused .bufferBound)

/-- Rules R71 to R73, R85 to R99 and R105 to R111 with R19 and R77: under every well-formed ROM a step that makes a call
gives the caller the record and the cursor of the spec's pseudocode, transcribed on numbers, and nothing else changes.
The text forms, byte order, wraps and annotation details are decisions D2 to D10, D12 to D14 and D20. -/
def Obligations.StepRefinesDecodePseudocode : Prop :=
  ∀ s : State, RomWellformed s.optab → s.opcodeByte = none → s.offset < s.stop → s.contract = true →
    step s = .next (Spec.returns s
      (Spec.line (s.optab.get (s.byteAt 0)) (s.byteAt 0) (s.byteAt 1) (s.byteAt 2) s.offset.toNat s.cycleEn)
      (Spec.length (s.optab.get (s.byteAt 0))))

/-- Rules R71 to R73 for all 256 instructions: within the contract, and where the ROM's record of the opcode has a name if
it is valid, every instruction completes with the record of the spec's pseudocode for its opcode and operand bytes. Under a
ROM that gives the opcode the width the instruction carries, those are its own bytes; under a ROM that gives it another width,
that further bytes come from the buffer and surplus ones are dropped is the model's inference (log 5) and no rule's. -/
def Obligations.EveryInstructionCompletes : Prop :=
  ∀ (i : Instr) (s : State), s.contract = true → i.entryNamed s.optab = true →
    exec i s = .next (Spec.returns s
      (Spec.line (s.optab.get i.opcode) i.opcode (Spec.operand0 i s) (Spec.operand1 i s) s.offset.toNat s.cycleEn)
      (Spec.length (s.optab.get i.opcode)))

/-- An instruction stops in two cases only. Outside the contract, whatever the opcode: rules R31, R194 and R204. And inside it
where the caller's ROM marks the opcode valid without a name, which breaks premise ROM_WELLFORMED of rule R224: that such a
call is refused by name is the model's choice (log 20); rule R204 gives no refusal for it. -/
def Obligations.InstructionsStopOnlyByName : Prop :=
  ∀ (i : Instr) (s : State),
    (exec i s = .refused .bufferBound ↔ s.contract = false) ∧
    (exec i s = .refused .romIllFormed ↔ s.contract = true ∧ i.entryNamed s.optab = false) ∧
    ((∃ t, exec i s = .next t) ↔ s.contract = true ∧ i.entryNamed s.optab = true)

/-- The model's interface (log 8): an instruction word that decodes, placed by `withFetchWord`, is the one that the very
next step runs, within the contract. -/
def Obligations.PlacedWordRunsNext : Prop :=
  ∀ (s : State) (nbits w : Nat) (i : Instr), s.mem.wf = true → decodeTableWord nbits w = some i →
    (s.withFetchWord nbits w).contract = true ∧
    step (s.withFetchWord nbits w) = exec i (s.withFetchWord nbits w) ∧
    (s.withFetchWord nbits w).optab = s.optab ∧ (s.withFetchWord nbits w).lines = s.lines

/-! ### What each instruction returns -/

/-- Rules R120 to R125 with R85 to R95: what one `decode` call returns for each of the 31 load and store instructions, and the
whole next state (so nothing is loaded or stored). The contents of the ROM are the default table, log 1; the text forms,
byte order and annotation form are decisions D3, D7, D8 and D13. -/
def Obligations.LoadStoreLines : Prop :=
  ∀ (s : State) (b : Byte) (w : Word), RomDefault s.optab → s.contract = true →
  exec (.ldaIzx b) s = .next (Spec.izx s "LDA" 0xA1 b (.single 6)) ∧
  exec (.ldaZp b) s = .next (Spec.zp s "LDA" 0xA5 b (.single 3)) ∧
  exec (.ldaImm b) s = .next (Spec.imm s "LDA" 0xA9 b (.single 2)) ∧
  exec (.ldaAbs w) s = .next (Spec.abs s "LDA" 0xAD w (.single 4)) ∧
  exec (.ldaIzy b) s = .next (Spec.izy s "LDA" 0xB1 b (.pair 5 6)) ∧
  exec (.ldaZpx b) s = .next (Spec.zpx s "LDA" 0xB5 b (.single 4)) ∧
  exec (.ldaAby w) s = .next (Spec.aby s "LDA" 0xB9 w (.pair 4 5)) ∧
  exec (.ldaAbx w) s = .next (Spec.abx s "LDA" 0xBD w (.pair 4 5)) ∧
  exec (.ldxImm b) s = .next (Spec.imm s "LDX" 0xA2 b (.single 2)) ∧
  exec (.ldxZp b) s = .next (Spec.zp s "LDX" 0xA6 b (.single 3)) ∧
  exec (.ldxAbs w) s = .next (Spec.abs s "LDX" 0xAE w (.single 4)) ∧
  exec (.ldxZpy b) s = .next (Spec.zpy s "LDX" 0xB6 b (.single 4)) ∧
  exec (.ldxAby w) s = .next (Spec.aby s "LDX" 0xBE w (.pair 4 5)) ∧
  exec (.ldyImm b) s = .next (Spec.imm s "LDY" 0xA0 b (.single 2)) ∧
  exec (.ldyZp b) s = .next (Spec.zp s "LDY" 0xA4 b (.single 3)) ∧
  exec (.ldyAbs w) s = .next (Spec.abs s "LDY" 0xAC w (.single 4)) ∧
  exec (.ldyZpx b) s = .next (Spec.zpx s "LDY" 0xB4 b (.single 4)) ∧
  exec (.ldyAbx w) s = .next (Spec.abx s "LDY" 0xBC w (.pair 4 5)) ∧
  exec (.staIzx b) s = .next (Spec.izx s "STA" 0x81 b (.single 6)) ∧
  exec (.staZp b) s = .next (Spec.zp s "STA" 0x85 b (.single 3)) ∧
  exec (.staAbs w) s = .next (Spec.abs s "STA" 0x8D w (.single 4)) ∧
  exec (.staIzy b) s = .next (Spec.izy s "STA" 0x91 b (.single 6)) ∧
  exec (.staZpx b) s = .next (Spec.zpx s "STA" 0x95 b (.single 4)) ∧
  exec (.staAby w) s = .next (Spec.aby s "STA" 0x99 w (.single 5)) ∧
  exec (.staAbx w) s = .next (Spec.abx s "STA" 0x9D w (.single 5)) ∧
  exec (.stxZp b) s = .next (Spec.zp s "STX" 0x86 b (.single 3)) ∧
  exec (.stxAbs w) s = .next (Spec.abs s "STX" 0x8E w (.single 4)) ∧
  exec (.stxZpy b) s = .next (Spec.zpy s "STX" 0x96 b (.single 4)) ∧
  exec (.styZp b) s = .next (Spec.zp s "STY" 0x84 b (.single 3)) ∧
  exec (.styAbs w) s = .next (Spec.abs s "STY" 0x8C w (.single 4)) ∧
  exec (.styZpx b) s = .next (Spec.zpx s "STY" 0x94 b (.single 4))

/-- Rules R126 to R135 with R88: the 10 register transfer and stack instructions. No register moves and no stack is touched:
the next state is the caller's, with the line. The ROM is the default table, log 1. -/
def Obligations.TransferStackLines : Prop :=
  ∀ (s : State) , RomDefault s.optab → s.contract = true →
  exec .tax s = .next (Spec.imp s "TAX" 0xAA (.single 2)) ∧
  exec .tay s = .next (Spec.imp s "TAY" 0xA8 (.single 2)) ∧
  exec .tsx s = .next (Spec.imp s "TSX" 0xBA (.single 2)) ∧
  exec .txa s = .next (Spec.imp s "TXA" 0x8A (.single 2)) ∧
  exec .txs s = .next (Spec.imp s "TXS" 0x9A (.single 2)) ∧
  exec .tya s = .next (Spec.imp s "TYA" 0x98 (.single 2)) ∧
  exec .pha s = .next (Spec.imp s "PHA" 0x48 (.single 3)) ∧
  exec .php s = .next (Spec.imp s "PHP" 0x08 (.single 3)) ∧
  exec .pla s = .next (Spec.imp s "PLA" 0x68 (.single 4)) ∧
  exec .plp s = .next (Spec.imp s "PLP" 0x28 (.single 4))

/-- The arithmetic, logic and compare instructions of 45_arith_logic.md, every form. The ROM is the default table, log 1. -/
def Obligations.ArithLogicLines : Prop :=
  ∀ (s : State) (b : Byte) (w : Word), RomDefault s.optab → s.contract = true →
  exec (.adcIzx b) s = .next (Spec.izx s "ADC" 0x61 b (.single 6)) ∧
  exec (.adcZp b) s = .next (Spec.zp s "ADC" 0x65 b (.single 3)) ∧
  exec (.adcImm b) s = .next (Spec.imm s "ADC" 0x69 b (.single 2)) ∧
  exec (.adcAbs w) s = .next (Spec.abs s "ADC" 0x6D w (.single 4)) ∧
  exec (.adcIzy b) s = .next (Spec.izy s "ADC" 0x71 b (.pair 5 6)) ∧
  exec (.adcZpx b) s = .next (Spec.zpx s "ADC" 0x75 b (.single 4)) ∧
  exec (.adcAby w) s = .next (Spec.aby s "ADC" 0x79 w (.pair 4 5)) ∧
  exec (.adcAbx w) s = .next (Spec.abx s "ADC" 0x7D w (.pair 4 5)) ∧
  exec (.sbcIzx b) s = .next (Spec.izx s "SBC" 0xE1 b (.single 6)) ∧
  exec (.sbcZp b) s = .next (Spec.zp s "SBC" 0xE5 b (.single 3)) ∧
  exec (.sbcImm b) s = .next (Spec.imm s "SBC" 0xE9 b (.single 2)) ∧
  exec (.sbcAbs w) s = .next (Spec.abs s "SBC" 0xED w (.single 4)) ∧
  exec (.sbcIzy b) s = .next (Spec.izy s "SBC" 0xF1 b (.pair 5 6)) ∧
  exec (.sbcZpx b) s = .next (Spec.zpx s "SBC" 0xF5 b (.single 4)) ∧
  exec (.sbcAby w) s = .next (Spec.aby s "SBC" 0xF9 w (.pair 4 5)) ∧
  exec (.sbcAbx w) s = .next (Spec.abx s "SBC" 0xFD w (.pair 4 5)) ∧
  exec (.andIzx b) s = .next (Spec.izx s "AND" 0x21 b (.single 6)) ∧
  exec (.andZp b) s = .next (Spec.zp s "AND" 0x25 b (.single 3)) ∧
  exec (.andImm b) s = .next (Spec.imm s "AND" 0x29 b (.single 2)) ∧
  exec (.andAbs w) s = .next (Spec.abs s "AND" 0x2D w (.single 4)) ∧
  exec (.andIzy b) s = .next (Spec.izy s "AND" 0x31 b (.pair 5 6)) ∧
  exec (.andZpx b) s = .next (Spec.zpx s "AND" 0x35 b (.single 4)) ∧
  exec (.andAby w) s = .next (Spec.aby s "AND" 0x39 w (.pair 4 5)) ∧
  exec (.andAbx w) s = .next (Spec.abx s "AND" 0x3D w (.pair 4 5)) ∧
  exec (.oraIzx b) s = .next (Spec.izx s "ORA" 0x01 b (.single 6)) ∧
  exec (.oraZp b) s = .next (Spec.zp s "ORA" 0x05 b (.single 3)) ∧
  exec (.oraImm b) s = .next (Spec.imm s "ORA" 0x09 b (.single 2)) ∧
  exec (.oraAbs w) s = .next (Spec.abs s "ORA" 0x0D w (.single 4)) ∧
  exec (.oraIzy b) s = .next (Spec.izy s "ORA" 0x11 b (.pair 5 6)) ∧
  exec (.oraZpx b) s = .next (Spec.zpx s "ORA" 0x15 b (.single 4)) ∧
  exec (.oraAby w) s = .next (Spec.aby s "ORA" 0x19 w (.pair 4 5)) ∧
  exec (.oraAbx w) s = .next (Spec.abx s "ORA" 0x1D w (.pair 4 5)) ∧
  exec (.eorIzx b) s = .next (Spec.izx s "EOR" 0x41 b (.single 6)) ∧
  exec (.eorZp b) s = .next (Spec.zp s "EOR" 0x45 b (.single 3)) ∧
  exec (.eorImm b) s = .next (Spec.imm s "EOR" 0x49 b (.single 2)) ∧
  exec (.eorAbs w) s = .next (Spec.abs s "EOR" 0x4D w (.single 4)) ∧
  exec (.eorIzy b) s = .next (Spec.izy s "EOR" 0x51 b (.pair 5 6)) ∧
  exec (.eorZpx b) s = .next (Spec.zpx s "EOR" 0x55 b (.single 4)) ∧
  exec (.eorAby w) s = .next (Spec.aby s "EOR" 0x59 w (.pair 4 5)) ∧
  exec (.eorAbx w) s = .next (Spec.abx s "EOR" 0x5D w (.pair 4 5)) ∧
  exec (.cmpIzx b) s = .next (Spec.izx s "CMP" 0xC1 b (.single 6)) ∧
  exec (.cmpZp b) s = .next (Spec.zp s "CMP" 0xC5 b (.single 3)) ∧
  exec (.cmpImm b) s = .next (Spec.imm s "CMP" 0xC9 b (.single 2)) ∧
  exec (.cmpAbs w) s = .next (Spec.abs s "CMP" 0xCD w (.single 4)) ∧
  exec (.cmpIzy b) s = .next (Spec.izy s "CMP" 0xD1 b (.pair 5 6)) ∧
  exec (.cmpZpx b) s = .next (Spec.zpx s "CMP" 0xD5 b (.single 4)) ∧
  exec (.cmpAby w) s = .next (Spec.aby s "CMP" 0xD9 w (.pair 4 5)) ∧
  exec (.cmpAbx w) s = .next (Spec.abx s "CMP" 0xDD w (.pair 4 5)) ∧
  exec (.cpxImm b) s = .next (Spec.imm s "CPX" 0xE0 b (.single 2)) ∧
  exec (.cpxZp b) s = .next (Spec.zp s "CPX" 0xE4 b (.single 3)) ∧
  exec (.cpxAbs w) s = .next (Spec.abs s "CPX" 0xEC w (.single 4)) ∧
  exec (.cpyImm b) s = .next (Spec.imm s "CPY" 0xC0 b (.single 2)) ∧
  exec (.cpyZp b) s = .next (Spec.zp s "CPY" 0xC4 b (.single 3)) ∧
  exec (.cpyAbs w) s = .next (Spec.abs s "CPY" 0xCC w (.single 4)) ∧
  exec (.bitZp b) s = .next (Spec.zp s "BIT" 0x24 b (.single 3)) ∧
  exec (.bitAbs w) s = .next (Spec.abs s "BIT" 0x2C w (.single 4))

/-- The increment, decrement, shift and rotate instructions of 46_incdec_shift.md, every form, the four Accumulator forms
included. The ROM is the default table, log 1. -/
def Obligations.IncDecShiftLines : Prop :=
  ∀ (s : State) (b : Byte) (w : Word), RomDefault s.optab → s.contract = true →
  exec (.incZp b) s = .next (Spec.zp s "INC" 0xE6 b (.single 5)) ∧
  exec (.incAbs w) s = .next (Spec.abs s "INC" 0xEE w (.single 6)) ∧
  exec (.incZpx b) s = .next (Spec.zpx s "INC" 0xF6 b (.single 6)) ∧
  exec (.incAbx w) s = .next (Spec.abx s "INC" 0xFE w (.single 7)) ∧
  exec .inx s = .next (Spec.imp s "INX" 0xE8 (.single 2)) ∧
  exec .iny s = .next (Spec.imp s "INY" 0xC8 (.single 2)) ∧
  exec (.decZp b) s = .next (Spec.zp s "DEC" 0xC6 b (.single 5)) ∧
  exec (.decAbs w) s = .next (Spec.abs s "DEC" 0xCE w (.single 6)) ∧
  exec (.decZpx b) s = .next (Spec.zpx s "DEC" 0xD6 b (.single 6)) ∧
  exec (.decAbx w) s = .next (Spec.abx s "DEC" 0xDE w (.single 7)) ∧
  exec .dex s = .next (Spec.imp s "DEX" 0xCA (.single 2)) ∧
  exec .dey s = .next (Spec.imp s "DEY" 0x88 (.single 2)) ∧
  exec (.aslZp b) s = .next (Spec.zp s "ASL" 0x06 b (.single 5)) ∧
  exec .aslAcc s = .next (Spec.acc s "ASL" 0x0A (.single 2)) ∧
  exec (.aslAbs w) s = .next (Spec.abs s "ASL" 0x0E w (.single 6)) ∧
  exec (.aslZpx b) s = .next (Spec.zpx s "ASL" 0x16 b (.single 6)) ∧
  exec (.aslAbx w) s = .next (Spec.abx s "ASL" 0x1E w (.single 7)) ∧
  exec (.lsrZp b) s = .next (Spec.zp s "LSR" 0x46 b (.single 5)) ∧
  exec .lsrAcc s = .next (Spec.acc s "LSR" 0x4A (.single 2)) ∧
  exec (.lsrAbs w) s = .next (Spec.abs s "LSR" 0x4E w (.single 6)) ∧
  exec (.lsrZpx b) s = .next (Spec.zpx s "LSR" 0x56 b (.single 6)) ∧
  exec (.lsrAbx w) s = .next (Spec.abx s "LSR" 0x5E w (.single 7)) ∧
  exec (.rolZp b) s = .next (Spec.zp s "ROL" 0x26 b (.single 5)) ∧
  exec .rolAcc s = .next (Spec.acc s "ROL" 0x2A (.single 2)) ∧
  exec (.rolAbs w) s = .next (Spec.abs s "ROL" 0x2E w (.single 6)) ∧
  exec (.rolZpx b) s = .next (Spec.zpx s "ROL" 0x36 b (.single 6)) ∧
  exec (.rolAbx w) s = .next (Spec.abx s "ROL" 0x3E w (.single 7)) ∧
  exec (.rorZp b) s = .next (Spec.zp s "ROR" 0x66 b (.single 5)) ∧
  exec .rorAcc s = .next (Spec.acc s "ROR" 0x6A (.single 2)) ∧
  exec (.rorAbs w) s = .next (Spec.abs s "ROR" 0x6E w (.single 6)) ∧
  exec (.rorZpx b) s = .next (Spec.zpx s "ROR" 0x76 b (.single 6)) ∧
  exec (.rorAbx w) s = .next (Spec.abx s "ROR" 0x7E w (.single 7))

/-- The eight conditional branches of 47_branch_jump_system.md: the line shows the target, the annotation depends on the page
test, and the cursor advances by 2 whatever the target (the decoder follows no branch). 0x90 and 0xF0 are pinned; the other
six records are the default table, log 1. The wrap of target and address is decision D5. -/
def Obligations.BranchLines : Prop :=
  ∀ (s : State) (d : Byte), RomDefault s.optab → s.contract = true →
  exec (.bcc d) s = .next (Spec.rel s "BCC" 0x90 d 2) ∧
  exec (.bcs d) s = .next (Spec.rel s "BCS" 0xB0 d 2) ∧
  exec (.beq d) s = .next (Spec.rel s "BEQ" 0xF0 d 2) ∧
  exec (.bmi d) s = .next (Spec.rel s "BMI" 0x30 d 2) ∧
  exec (.bne d) s = .next (Spec.rel s "BNE" 0xD0 d 2) ∧
  exec (.bpl d) s = .next (Spec.rel s "BPL" 0x10 d 2) ∧
  exec (.bvc d) s = .next (Spec.rel s "BVC" 0x50 d 2) ∧
  exec (.bvs d) s = .next (Spec.rel s "BVS" 0x70 d 2)

/-- The jumps, calls, returns and BRK of 47_branch_jump_system.md: each is a line and the cursor advances by its length; BRK is
one byte and no exception. The ROM is the default table, log 1. -/
def Obligations.JumpSystemLines : Prop :=
  ∀ (s : State) (w : Word), RomDefault s.optab → s.contract = true →
  exec (.jmpAbs w) s = .next (Spec.abs s "JMP" 0x4C w (.single 3)) ∧
  exec (.jmpInd w) s = .next (Spec.ind s "JMP" 0x6C w (.single 5)) ∧
  exec (.jsrAbs w) s = .next (Spec.abs s "JSR" 0x20 w (.single 6)) ∧
  exec .rts s = .next (Spec.imp s "RTS" 0x60 (.single 6)) ∧
  exec .rti s = .next (Spec.imp s "RTI" 0x40 (.single 6)) ∧
  exec .brk s = .next (Spec.imp s "BRK" 0x00 (.single 7))

/-- The status-flag instructions and NOP of 48_flag_nop.md. No flag exists to change. The ROM is the default table, log 1. -/
def Obligations.FlagNopLines : Prop :=
  ∀ (s : State) , RomDefault s.optab → s.contract = true →
  exec .clc s = .next (Spec.imp s "CLC" 0x18 (.single 2)) ∧
  exec .cld s = .next (Spec.imp s "CLD" 0xD8 (.single 2)) ∧
  exec .cli s = .next (Spec.imp s "CLI" 0x58 (.single 2)) ∧
  exec .clv s = .next (Spec.imp s "CLV" 0xB8 (.single 2)) ∧
  exec .sec s = .next (Spec.imp s "SEC" 0x38 (.single 2)) ∧
  exec .sed s = .next (Spec.imp s "SED" 0xF8 (.single 2)) ∧
  exec .sei s = .next (Spec.imp s "SEI" 0x78 (.single 2)) ∧
  exec .nop s = .next (Spec.imp s "NOP" 0xEA (.single 2))

/-- Rules R72, R180 and R181: each of the 105 undefined opcode bytes is one line `.byte $XX`, marked invalid, without an
annotation whatever `cycle_en` is, and the cursor advances by 1. Which bytes they are is the default table (log 1); the
`mode` field is the filler of decision D11 (log 2). -/
def Obligations.UndefinedOpcodeLines : Prop :=
  ∀ (s : State), RomDefault s.optab → s.contract = true →
    ∀ row ∈ Spec.undefinedRows, exec row.1 s = .next (Spec.byteState s row.2)

/-! ### What an instruction leaves unchanged -/

/-- Rules R10, R17, R23, R24 and R34: an instruction changes the outputs of the call and the caller's cursor and lines,
and nothing else: the ROM, every byte of the buffer, its lengths, the bounds, the inputs and the answer of the last
`classify` are as before, and every earlier line stays. It appends exactly the record it returns. -/
def Obligations.InstructionFrame : Prop :=
  ∀ (i : Instr) (s t : State), exec i s = .next t →
    t.optab = s.optab ∧ (∀ a, t.mem.read a = s.mem.read a) ∧ (∀ a, t.memRead a = s.memRead a) ∧
    t.bufLen = s.bufLen ∧ t.imageLen = s.imageLen ∧ t.start = s.start ∧ t.stop = s.stop ∧ t.cycleEn = s.cycleEn ∧
    t.opcodeByte = s.opcodeByte ∧ t.invalidMarker = s.invalidMarker ∧ t.entry = s.entry ∧
    t.nextOffset = some t.offset ∧ ∃ d, t.record = some d ∧ t.lines = s.lines ++ [d]

/-- Rules R10, R17, R30, R34, R215 and R217: no step writes the ROM, the buffer, its lengths, the bounds, `cycle_en` or the
marker, and no line the caller holds is lost. (The inputs `offset` and `opcode_byte` do change: the loop takes the new cursor,
and an answered `classify` is no longer pending.) A step without a pending `classify` leaves the last answer of `classify`. That
a step with one makes no `decode` call, and so leaves the cursor and the outputs of `decode`, is the model's order (log 6). -/
def Obligations.StepFrame : Prop :=
  ∀ s t : State, step s = .next t →
    t.optab = s.optab ∧ (∀ a, t.mem.read a = s.mem.read a) ∧ (∀ a, t.memRead a = s.memRead a) ∧
    t.bufLen = s.bufLen ∧ t.imageLen = s.imageLen ∧ t.start = s.start ∧ t.stop = s.stop ∧ t.cycleEn = s.cycleEn ∧
    t.invalidMarker = s.invalidMarker ∧ s.lines <+: t.lines ∧
    (s.opcodeByte = none → t.entry = s.entry ∧ t.opcodeByte = none) ∧
    (s.opcodeByte ≠ none → t.record = s.record ∧ t.nextOffset = s.nextOffset ∧ t.offset = s.offset ∧ t.lines = s.lines)

/-! ### The run -/

/-- Rules R30, R33, R57, R77, R78 and R216: from every state that meets the invariant, a step that answers a next state
gives one that meets it: the buffer stays padded, the cursor overshoots the stop bound by at most 2, and the lines are a
linear sweep without gaps from the start offset to the cursor, each of them what `decode` gives at its offset. -/
def Obligations.StepKeepsRunInvariant : Prop :=
  ∀ s t : State, RunInv s → step s = .next t → RunInv t

/-- The state after reset meets the run invariant (with the reset values of log 4, the model's choice). -/
def Obligations.ResetMeetsRunInvariant : Prop := RunInv State.reset

/-- Rules R30, R212 and R224 (decision D18 for the bounds): an image can be loaded exactly when it has 1 to 65536 bytes; the
buffer then holds it and, after it, two zero bytes; a run begun on it with legal bounds meets the invariant. The rules ask for
at least two padding bytes: that this move gives exactly two, so that the read after them is refused, is the model's choice
(log 28). -/
def Obligations.LoadedRunMeetsRunInvariant : Prop :=
  ∀ (s : State) (image : List Byte), RomWellformed s.optab →
    (s.loadImage image = none ↔ image = [] ∨ 65536 < image.length) ∧
    ∀ t, s.loadImage image = some t →
      BufferOk t ∧ (∀ k b, image[k]? = some b → t.memRead k = .ok b) ∧
      t.memRead image.length = .ok 0 ∧ t.memRead (image.length + 1) = .ok 0 ∧
      t.memRead (image.length + 2) = .error .bufferBound ∧
      ∀ (start stop : Cursor) (c : Bool),
        start.toNat < image.length → start.toNat ≤ stop.toNat → stop.toNat ≤ image.length →
        ∃ u, t.beginRun start stop c = some u ∧ RunInv u ∧ u.offset = start ∧ u.lines = [] ∧ u.cycleEn = c

/-- Rules R77, R78 and R204: a run that meets the invariant reaches its stop bound, in no more calls than bytes lie below
it, without a fault or a refusal; each call appends one line; the final cursor is `stop`, `stop + 1` or `stop + 2`. The
last clause, that a further step then changes nothing, is the model's choice of the step of a run that has ended (log 7). -/
def Obligations.RunReachesTheStopBound : Prop :=
  ∀ s : State, RunInv s → s.opcodeByte = none →
    ∃ (k : Nat) (t : State), k ≤ s.stop.toNat - s.offset.toNat ∧ Host.Core.run Sys2Proof.core k s = .next t ∧
      s.stop.toNat ≤ t.offset.toNat ∧ t.offset.toNat ≤ s.stop.toNat + 2 ∧
      t.lines.length = s.lines.length + k ∧ RunInv t ∧ step t = .next t

/-! ### The buffer and the caller's writes -/

/-- Rules R38, R39 and R42: a byte the caller writes in the image between two calls is what the next read of it gives, every
other byte reads as before, and the buffer stays an image with zero padding in canonical form. -/
def Obligations.WrittenByteIsSeen : Prop :=
  ∀ (s t : State) (a : Nat) (b : Byte), BufferOk s → s.writeByte a b = some t →
    BufferOk t ∧ (∀ x, t.mem.read x = if x = a then b else s.mem.read x) ∧
    (∀ k, s.offset.toNat + k = a → t.byteAt k = b)

/-- Rule R30 and conflict C2: every byte of the padding reads as zero, and no read reaches past the physical length. -/
def Obligations.PaddingReadsZero : Prop :=
  ∀ s : State, BufferOk s → ∀ a, s.imageLen ≤ a →
    (a < s.bufLen → s.memRead a = .ok 0) ∧ (s.bufLen ≤ a → s.memRead a = .error .bufferBound)

/-- Rules R34, R35, R38 and R74: the result of a call depends on the opcode byte, its ROM record, the offset, the switch
and the operand bytes its record's width takes, and on no other byte of the buffer: of two states that agree on these, each
about to make a call, where a step of one returns, a step of the other returns the same record and `next_offset` (the other
call being within its contract). The second clause says the same of `decodeAt`, by which the run invariant describes a line,
and includes the case where nothing is returned. -/
def Obligations.DecodeDependsOnItsBytesOnly : Prop :=
  (∀ s t u : State, s.opcodeByte = none → t.opcodeByte = none → s.offset < s.stop → t.offset < t.stop →
    t.contract = true → s.offset = t.offset → s.cycleEn = t.cycleEn → s.byteAt 0 = t.byteAt 0 →
    s.optab.get (s.byteAt 0) = t.optab.get (t.byteAt 0) →
    (∀ k, k < (s.optab.get (s.byteAt 0)).operandWidth → s.byteAt (1 + k) = t.byteAt (1 + k)) →
    step s = .next u → ∃ v, step t = .next v ∧ v.record = u.record ∧ v.nextOffset = u.nextOffset) ∧
  ∀ (s t : State) (o : Word), s.cycleEn = t.cycleEn →
    s.mem.read o.toNat = t.mem.read o.toNat →
    s.optab.get (s.mem.read o.toNat) = t.optab.get (t.mem.read o.toNat) →
    (∀ k, k < (s.optab.get (s.mem.read o.toNat)).operandWidth →
      s.mem.read (o.toNat + 1 + k) = t.mem.read (o.toNat + 1 + k)) →
    s.decodeAt o = t.decodeAt o

/-- Rule R24: there is no hidden state: two calls with the same ROM, buffer contents, offset and switch return the same
record and cursor, however the two states differ in everything else (earlier results, lines, bounds, lengths). -/
def Obligations.NoHiddenState : Prop :=
  ∀ s s' t t' : State, s.opcodeByte = none → s'.opcodeByte = none → s.offset < s.stop → s'.offset < s'.stop →
    s.optab = s'.optab → (∀ a, s.mem.read a = s'.mem.read a) → s.offset = s'.offset → s.cycleEn = s'.cycleEn →
    step s = .next t → step s' = .next t' →
    t.record = t'.record ∧ t.nextOffset = t'.nextOffset

/-- Rule R75: decoding the same buffer and offset twice gives the same output both times, and each call returns, in one
step. -/
def Obligations.DecodeIsIdempotent : Prop :=
  ∀ s : State, RomWellformed s.optab → s.opcodeByte = none → s.offset < s.stop → s.contract = true →
    ∃ t u v, step s = .next t ∧ t.setOffset s.offset = some v ∧ step v = .next u ∧
      u.record = t.record ∧ u.nextOffset = t.nextOffset ∧ t.record ≠ none

/-- Rule R33: there is no alignment: every offset within the contract decodes; the operand bytes are the buffer's next bytes
wherever they lie, padding zeros beyond the image; and the next instruction starts right after them, 1 to 3 bytes on. -/
def Obligations.EveryOffsetDecodes : Prop :=
  ∀ s : State, RomWellformed s.optab → s.opcodeByte = none → s.offset < s.stop → s.contract = true →
    ∃ t d, step s = .next t ∧ t.record = some d ∧ d.offset.toNat = s.offset.toNat ∧ d.operand.length ≤ 2 ∧
      t.offset.toNat = s.offset.toNat + 1 + d.operand.length ∧
      ∀ k, k < d.operand.length → d.operand[k]? = some (s.byteAt (1 + k)) ∧
        (BufferOk s → s.imageLen ≤ s.offset.toNat + 1 + k → d.operand[k]? = some 0)

/-! ### Length, width, operands and text -/

/-- Rule R51: the length is 1 for an invalid opcode byte and 1 plus the mode's width for a valid one; it depends on the
ROM record of the opcode byte alone. -/
def Obligations.LengthDependsOnTheOpcodeAlone : Prop :=
  (∀ s t : State, s.opcodeByte = none → s.offset < s.stop → step s = .next t →
    s.memRead s.offset.toNat = .ok (s.byteAt 0) ∧
    t.offset.toNat = s.offset.toNat +
      (if (s.optab.get (s.byteAt 0)).valid = true then 1 + (s.optab.get (s.byteAt 0)).mode.width else 1)) ∧
  ∀ s s' t t' : State, s.opcodeByte = none → s'.opcodeByte = none → s.offset < s.stop → s'.offset < s'.stop →
    s.optab = s'.optab → s.byteAt 0 = s'.byteAt 0 → step s = .next t → step s' = .next t' →
    t.offset.toNat - s.offset.toNat = t'.offset.toNat - s'.offset.toNat

/-- Rule R52: the operand width of each of the thirteen modes, and 0 for an invalid opcode whatever its `mode` field
holds, with the cursor still advancing by 1. -/
def Obligations.OperandWidthOfEachMode : Prop :=
  (∀ m : Mode, m.width = 0 ↔ m ∈ [Mode.implied, .accumulator]) ∧
  (∀ m : Mode, m.width = 1 ↔ m ∈ [Mode.immediate, .zeroPage, .zeroPageIndexedX, .zeroPageIndexedY, .indexedIndirectX,
    .indirectIndexedY, .relative]) ∧
  (∀ m : Mode, m.width = 2 ↔ m ∈ [Mode.absolute, .indirectAbsolute, .absoluteIndexedX, .absoluteIndexedY]) ∧
  (∀ e : OpcodeEntry, e.valid = true → e.operandWidth = e.mode.width) ∧
  (∀ e : OpcodeEntry, e.valid = false → e.operandWidth = 0) ∧
  ∀ (e : OpcodeEntry) (op b0 b1 : Byte) (o : Word) (c : Bool), e.valid = false →
    ∃ d n, decodeEntry e op b0 b1 o c = some (d, n) ∧ d.operand = [] ∧ n.toNat = o.toNat + 1

/-- Rules R54, R96 and R101 (decision D5 for the wrap): the Relative target in integers; a displacement of 0xFE is the
branch itself; different displacements have different targets; the target's page is that of the address after the branch or
a neighbour of it. -/
def Obligations.RelativeTargetIsTheSignedSum : Prop :=
  ∀ (o : Word) (b b' : Byte),
    ((relativeTarget o b).toNat : Int) = ((o.toNat : Int) + 2 + Spec.sext b) % 65536 ∧
    relativeTarget o 0xFE = o ∧ relativeTarget o 0 = addressAfter o 1 ∧
    (relativeTarget o b = relativeTarget o b' → b = b') ∧
    (page (relativeTarget o b) = page (addressAfter o 1) ∨ page (relativeTarget o b) = page (addressAfter o 1) + 1 ∨
      page (relativeTarget o b) = page (addressAfter o 1) - 1)

/-- Rule R99 (decision D14): a line has a resolved value exactly in the Relative mode, where it is the target, and in the
four modes of a two-byte operand, where it is the operand word with the second byte high. -/
def Obligations.ResolvedValueOfEachMode : Prop :=
  ∀ (i : Instr) (s t : State) (d : DecodedInstruction), exec i s = .next t → t.record = some d →
    (d.resolved ≠ none ↔ d.invalid = false ∧ (d.mode = .relative ∨ d.mode.width = 2)) ∧
    (d.invalid = false → d.mode = .relative →
      ∃ b v, d.operand = [b] ∧ d.resolved = some v ∧ (v.toNat : Int) = ((s.offset.toNat : Int) + 2 + Spec.sext b) % 65536) ∧
    (d.invalid = false → d.mode.width = 2 →
      ∃ lo hi v, d.operand = [lo, hi] ∧ d.resolved = some v ∧ v.toNat = hi.toNat * 256 + lo.toNat)

/-- Rule R98 (decision D7): fixed-width upper-case hexadecimal, from which the value can be read back. -/
def Obligations.HexIsFixedWidthAndFaithful : Prop :=
  (∀ v : Byte, hex2 v = Spec.hex2 v.toNat ∧ (hex2 v).length = 2) ∧
  (∀ w : Word, hex4 w = Spec.hex4 w.toNat ∧ (hex4 w).length = 4) ∧
  (∀ v v' : Byte, hex2 v = hex2 v' → v = v') ∧ (∀ w w' : Word, hex4 w = hex4 w' → w = w') ∧
  ∀ w : Word, ∀ c ∈ (hex4 w).toList, c ∈ "0123456789ABCDEF".toList

/-- Rule R61, for the default table (log 1): at one offset the printed text of a line determines the instruction, its
operand included; so nothing the decoder reads is lost in what it prints, undefined bytes included. -/
def Obligations.PrintedTextDeterminesInstruction : Prop :=
  ∀ (i j : Instr) (s t u : State) (d e : DecodedInstruction), RomDefault s.optab →
    exec i s = .next t → exec j s = .next u → t.record = some d → u.record = some e → d.text = e.text → i = j

/-- Rule R222: the text has at most 11 characters, and 9 for an undefined byte, under every well-formed ROM. -/
def Obligations.TextLengthBound : Prop :=
  ∀ (i : Instr) (s t : State) (d : DecodedInstruction), RomWellformed s.optab → exec i s = .next t → t.record = some d →
    d.text.length ≤ 11 ∧ (d.invalid = true → d.text.length = 9)

/-- Rule R74: only the Relative mode makes the text, the operand or the resolved value depend on where the instruction stands.
(The field `offset` always does, and so do the numbers of a record with both flags; the statement is about the three fields
named.) -/
def Obligations.OnlyRelativeDependsOnTheOffset : Prop :=
  ∀ (i : Instr) (s s' t u : State) (o : Cursor) (d e : DecodedInstruction), i.wellFormedIn s.optab = true →
    ((s.optab.get i.opcode).valid = true → (s.optab.get i.opcode).mode ≠ .relative) → s.setOffset o = some s' →
    exec i s = .next t → exec i s' = .next u → t.record = some d → u.record = some e →
    d.text = e.text ∧ d.operand = e.operand ∧ d.resolved = e.resolved

/-! ### The one exception -/

/-- Rule R191: an undefined opcode byte is reported inline and decoding continues at the next byte: an ordinary step whose
record is marked invalid; nothing is saved and no mode changes. The loop goes on: a run ends at its stop bound, however many
undefined bytes it meets. -/
def Obligations.UndefinedOpcodeIsNotFatal : Prop :=
  (∀ s : State, s.opcodeByte = none → s.offset < s.stop → s.contract = true →
    (s.optab.get (s.byteAt 0)).valid = false →
    ∃ d, step s = .next (Spec.returns s d 1) ∧ d.invalid = true ∧ d.opcode = s.byteAt 0 ∧
      d.offset.toNat = s.offset.toNat ∧ ∃ digits, d.text = ".byte $" ++ digits ∧ digits.length = 2) ∧
  ∀ s : State, RunInv s → s.opcodeByte = none →
    ∃ (k : Nat) (t : State), Host.Core.run Sys2Proof.core k s = .next t ∧ s.stop.toNat ≤ t.offset.toNat

/-- Rules R72, R79 and R190 (decisions D10 and D21 for the code and the marker): a line is marked invalid exactly when the
ROM's record of its opcode is invalid; the error code is then 1, the marker the caller's text, the line names the byte and
its place, and no annotation is given. -/
def Obligations.ErrorReportedExactlyForInvalidBytes : Prop :=
  ∀ (i : Instr) (s t : State) (d : DecodedInstruction), exec i s = .next t → t.record = some d →
    (d.invalid = true ↔ (s.optab.get i.opcode).valid = false) ∧
    d.errorCode = (if (s.optab.get i.opcode).valid = true then 0 else 1) ∧
    t.markerText d = (if (s.optab.get i.opcode).valid = true then none else some s.invalidMarker) ∧
    d.opcode = i.opcode ∧ d.offset.toNat = s.offset.toNat ∧
    (d.invalid = true → d.text = ".byte $" ++ Spec.hex2 i.opcode.toNat ∧ d.operand = [] ∧ d.cycles = none ∧
      d.cyclesText = none)

/-! ### The cycle annotation -/

/-- Rules R105, R110, R111 and R113 (decisions D12 and D13): a line has an annotation exactly when the caller enabled it
and the opcode is valid; the text is `N` or `N/M` of the numbers beside it, in decimal, and in a pair `M` is `N + 1`. -/
def Obligations.AnnotationOnlyWhenEnabled : Prop :=
  ∀ (i : Instr) (s t : State) (d : DecodedInstruction), exec i s = .next t → t.record = some d →
    (d.cycles ≠ none ↔ s.cycleEn = true ∧ (s.optab.get i.opcode).valid = true) ∧
    d.cyclesText = d.cycles.map Spec.cyclesText ∧
    ∀ n m, d.cycles = some (.pair n m) → m = n + 1

/-- Rule R107: with no penalty flag the annotation is the one number `base_cycles`, whatever the operand and the offset;
for the pinned 0x69 it is `2` (the count of such records in the default table is in the census). -/
def Obligations.NoFlagAnnotation : Prop :=
  (∀ (i : Instr) (s : State), s.contract = true → s.cycleEn = true → i.entryNamed s.optab = true →
    (s.optab.get i.opcode).valid = true → (s.optab.get i.opcode).flags = ⟨false, false⟩ →
    ∃ t d, exec i s = .next t ∧ t.record = some d ∧ d.cycles = some (.single (s.optab.get i.opcode).baseCycles) ∧
      d.cyclesText = some (toString (s.optab.get i.opcode).baseCycles)) ∧
  ∀ (b : Byte) (s : State), RomPinned s.optab → s.contract = true → s.cycleEn = true →
    ∃ t d, exec (.adcImm b) s = .next t ∧ t.record = some d ∧ d.cyclesText = some "2"

/-- Rule R109: with exactly one penalty flag the annotation is `base` and `base + 1`, whatever the operand, the offset
and the mode; for the pinned 0xBD it is `4/5`. -/
def Obligations.OneFlagAnnotation : Prop :=
  (∀ (i : Instr) (s : State), s.contract = true → s.cycleEn = true → i.entryNamed s.optab = true →
    (s.optab.get i.opcode).valid = true →
    (s.optab.get i.opcode).flags = ⟨true, false⟩ ∨ (s.optab.get i.opcode).flags = ⟨false, true⟩ →
    ∃ t d, exec i s = .next t ∧ t.record = some d ∧
      d.cycles = some (.pair (s.optab.get i.opcode).baseCycles ((s.optab.get i.opcode).baseCycles + 1)) ∧
      d.cyclesText = some (toString (s.optab.get i.opcode).baseCycles ++ "/" ++
        toString ((s.optab.get i.opcode).baseCycles + 1))) ∧
  ∀ (w : Word) (s : State), RomPinned s.optab → s.contract = true → s.cycleEn = true →
    ∃ t d, exec (.ldaAbx w) s = .next t ∧ t.record = some d ∧ d.cyclesText = some "4/5"

/-- Rule R108 (decisions D5 for the wrap, D20 for a record that is not Relative): with both flags the annotation is `base`
and `base + 1` where the address after the instruction and the resolved value lie in one page, and one more each where they
do not; without a resolved value the pages count as equal; for the pinned 0xF0 it is `3/4` or `2/3` by the page of the
target. -/
def Obligations.BothFlagsAnnotation : Prop :=
  (∀ (i : Instr) (s : State), s.contract = true → s.cycleEn = true → i.entryNamed s.optab = true →
    (s.optab.get i.opcode).valid = true → (s.optab.get i.opcode).flags = ⟨true, true⟩ →
    ∃ t d, exec i s = .next t ∧ t.record = some d ∧
      (∀ v, d.resolved = some v →
        (Spec.crosses (Spec.after s.offset.toNat (s.optab.get i.opcode).mode.width) v.toNat →
          d.cycles = some (.pair ((s.optab.get i.opcode).baseCycles + 1) ((s.optab.get i.opcode).baseCycles + 2))) ∧
        (¬ Spec.crosses (Spec.after s.offset.toNat (s.optab.get i.opcode).mode.width) v.toNat →
          d.cycles = some (.pair (s.optab.get i.opcode).baseCycles ((s.optab.get i.opcode).baseCycles + 1)))) ∧
      (d.resolved = none →
        d.cycles = some (.pair (s.optab.get i.opcode).baseCycles ((s.optab.get i.opcode).baseCycles + 1)))) ∧
  ∀ (b : Byte) (s : State), RomPinned s.optab → s.contract = true → s.cycleEn = true →
    ∃ t d, exec (.beq b) s = .next t ∧ t.record = some d ∧
      (Spec.crosses (Spec.after s.offset.toNat 1) (Spec.target s.offset.toNat b) → d.cyclesText = some "3/4") ∧
      (¬ Spec.crosses (Spec.after s.offset.toNat 1) (Spec.target s.offset.toNat b) → d.cyclesText = some "2/3")

/-- Rule R106: two addresses cross a page exactly when they differ above the low byte; the test is symmetric and looks at no
low byte. -/
def Obligations.PageTestComparesHighBytes : Prop :=
  ∀ a t : Word, (crosses a t = true ↔ a.toNat / 256 ≠ t.toNat / 256) ∧ crosses a t = crosses t a ∧
    (∀ lo : Byte, crosses a (wordOf lo (page t)) = crosses a t)

/-- Rule R110: the numbers are printed in decimal without a leading zero, and can be read back. -/
def Obligations.DecimalIsFaithful : Prop :=
  ∀ n : Nat, (dec n).toList.foldl (fun v c => v * 10 + (c.toNat - 48)) 0 = n ∧
    (∀ c ∈ (dec n).toList, c.isDigit = true) ∧ (n ≠ 0 → (dec n).toList.head? ≠ some '0') ∧ (n = 0 → dec n = "0")

/-! ### The caller -/

/-- Rules R212, R215, R223 and R224: from the first state of a machine with any well-formed table, whatever moves the caller
makes between calls and whatever calls are made, the premises of the calls hold and the table is as it was. A call about to be
made is then within its contract, so every step answers a next state. The caller cannot set an offset above 65535, and can set
exactly the bounds that premise RUN_BOUNDS allows; bounds set are in force. (That a load puts the bounds back to 0 is the
model's choice, log 29; that the bounds of the first state are 0 is log 4.) -/
def Obligations.CallerMovesKeepCallsLegal : Prop :=
  (∀ rom, RomWellformed rom → CallerOk (State.resetWith rom) ∧ (State.resetWith rom).optab = rom) ∧
  (∀ (m : CallerMove) (s t : State), CallerOk s → m.apply s = some t → CallerOk t ∧ t.optab = s.optab) ∧
  (∀ s t : State, CallerOk s → step s = .next t → CallerOk t ∧ t.optab = s.optab) ∧
  (∀ s : State, CallerOk s → StepSafe s ∧ (s.offset < s.stop → OffsetInRange s ∧ BufPadded s)) ∧
  (∀ (s : State) (n : Cursor), (s.setOffset n = none ↔ 65535 < n.toNat) ∧
    ∀ t, s.setOffset n = some t → t.offset = n ∧ OffsetInRange t) ∧
  (∀ (s : State) (n : Cursor), (s.setStop n = none ↔ ¬ RunBounds { s with stop := n }) ∧
    ∀ t, s.setStop n = some t → t.stop = n ∧ RunBounds t) ∧
  ∀ (s : State) (a z : Cursor) (c : Bool),
    (s.beginRun a z c = none ↔ ¬ RunBounds { s with start := a, stop := z }) ∧
    ∀ t, s.beginRun a z c = some t → t.start = a ∧ t.stop = z ∧ RunBounds t

end
end

