-- ==== Sys2Proof/Laws/Memory.lean ====
section
/-! SUPPORT. The laws of the buffer's contents: a read after a write, and the canonical form every operation keeps. -/

namespace Sys2Proof.Machine

namespace Memory

@[simp] theorem read_nil (a : Nat) : read [] a = Config.unlistedByte := rfl

@[simp] theorem wf_nil : wf [] = true := rfl

/-- A canonical memory from `lo` on is canonical from any lower index on. -/
theorem wfFrom_mono {m : Memory} {lo lo' : Nat} (h : lo' ≤ lo) (hm : m.wfFrom lo = true) : m.wfFrom lo' = true := by
  cases m with
  | nil => rfl
  | cons c rest =>
    simp only [wfFrom, Bool.and_eq_true, decide_eq_true_eq] at hm ⊢
    exact ⟨⟨h.trans hm.1.1, hm.1.2⟩, hm.2⟩

/-- Below the first index of a canonical memory every byte is unlisted. -/
theorem read_below {m : Memory} {lo a : Nat} (hm : m.wfFrom lo = true) (h : a < lo) : m.read a = Config.unlistedByte := by
  induction m generalizing lo with
  | nil => rfl
  | cons c rest ih =>
    simp only [wfFrom, Bool.and_eq_true, decide_eq_true_eq] at hm
    rw [read, if_neg (by omega), ih hm.2 (by omega)]

/-- A write keeps the canonical form. -/
theorem write_wfFrom {m : Memory} {lo a : Nat} (b : Byte) (hm : m.wfFrom lo = true) (h : lo ≤ a) :
    (m.write a b).wfFrom lo = true := by
  induction m generalizing lo with
  | nil => by_cases hb : b = Config.unlistedByte <;> simp [write, wfFrom, hb, h]
  | cons c rest ih =>
    obtain ⟨k, v⟩ := c
    simp only [wfFrom, Bool.and_eq_true, decide_eq_true_eq] at hm
    rcases Nat.lt_trichotomy a k with hak | rfl | hak
    · by_cases hb : b = Config.unlistedByte <;> simp [write, wfFrom, hb, hak, h, hm, Nat.succ_le_of_lt hak]
    · by_cases hb : b = Config.unlistedByte
      · simpa [write, hb] using wfFrom_mono (Nat.le_succ_of_le h) hm.2
      · simp [write, wfFrom, hb, h, hm]
    · simp only [write, if_neg (Nat.lt_asymm hak), if_neg (Nat.ne_of_gt hak), wfFrom, Bool.and_eq_true,
        decide_eq_true_eq]
      exact ⟨hm.1, ih hm.2 (by omega)⟩

theorem write_wf {m : Memory} (a : Nat) (b : Byte) (hm : m.wf = true) : (m.write a b).wf = true :=
  write_wfFrom b hm (Nat.zero_le a)

theorem writeList_wf (bs : List Byte) {m : Memory} (a : Nat) (hm : m.wf = true) : (m.writeList a bs).wf = true := by
  induction bs generalizing m a with
  | nil => exact hm
  | cons b rest ih => exact ih (a + 1) (write_wf a b hm)

/-- A write adds no cell but at its own index. -/
theorem mem_write {m : Memory} {a : Nat} {b : Byte} {c : Host.Cell} (h : c ∈ m.write a b) : c.1 = a ∨ c ∈ m := by
  induction m with
  | nil =>
    rw [write] at h
    split at h
    · cases h
    · exact .inl (by rw [List.mem_singleton.mp h])
  | cons d rest ih =>
    obtain ⟨k, v⟩ := d
    rw [write] at h
    split at h <;> try split at h
    all_goals try split at h
    all_goals simp only [List.mem_cons] at h ⊢
    all_goals grind

/-- A list of bytes adds no cell but at the indexes it covers. -/
theorem mem_writeList {m : Memory} {bs : List Byte} {a : Nat} {c : Host.Cell} (h : c ∈ m.writeList a bs) :
    (a ≤ c.1 ∧ c.1 < a + bs.length) ∨ c ∈ m := by
  induction bs generalizing m a with
  | nil => exact .inr h
  | cons b rest ih =>
    rw [List.length_cons]
    rcases ih h with h | h
    · exact .inl (by omega)
    · rcases mem_write h with h | h
      · exact .inl (by omega)
      · exact .inr h

/-- A read after a write: the byte written at its own index, every other byte as before. -/
theorem read_write_from {m : Memory} {lo : Nat} (a : Nat) (b : Byte) (x : Nat) (hm : m.wfFrom lo = true) :
    (m.write a b).read x = if x = a then b else m.read x := by
  induction m generalizing lo with
  | nil =>
    by_cases hb : b = Config.unlistedByte
    · simp [write, hb]
    · simp [write, read, hb, eq_comm]
  | cons c rest ih =>
    obtain ⟨k, v⟩ := c
    simp only [wfFrom, Bool.and_eq_true, decide_eq_true_eq] at hm
    rcases Nat.lt_trichotomy a k with hak | rfl | hak
    · by_cases hb : b = Config.unlistedByte
      · simp only [write, if_pos hak, if_pos hb]
        split
        · subst hb; subst x
          rw [read, if_neg (by omega)]
          exact read_below hm.2 (by omega)
        · rfl
      · simp only [write, if_pos hak, if_neg hb, read]
        by_cases hx : x = a
        · simp [hx]
        · simp [hx, Ne.symm hx]
    · by_cases hb : b = Config.unlistedByte
      · simp only [write, if_neg (Nat.lt_irrefl a), if_pos hb, if_true, read]
        by_cases hx : x = a
        · subst hx; simp [hb, read_below hm.2 (Nat.lt_succ_self x)]
        · simp [hx, Ne.symm hx]
      · simp only [write, if_neg (Nat.lt_irrefl a), if_neg hb, if_true, read]
        by_cases hx : x = a
        · simp [hx]
        · simp [hx, Ne.symm hx]
    · simp only [write, if_neg (Nat.lt_asymm hak), if_neg (Nat.ne_of_gt hak), read]
      by_cases hx : k = x
      · subst hx; simp [show k ≠ a by omega]
      · simp only [if_neg hx]
        exact ih hm.2

theorem read_write {m : Memory} (a : Nat) (b : Byte) (x : Nat) (hm : m.wf = true) :
    (m.write a b).read x = if x = a then b else m.read x :=
  read_write_from a b x hm

end Memory

/-- The contract in arithmetic. -/
theorem contract_iff (s : State) : s.contract = true ↔ s.offset.toNat < 65536 ∧ s.offset.toNat + 2 < s.bufLen := by
  simp only [State.contract, Bool.and_eq_true, decide_eq_true_eq]
  exact Iff.rfl

/-- Under the contract the bytes a call reads are what `MemRead` gives. -/
theorem memRead_eq_byteAt {s : State} (h : s.contract = true) {k : Nat} (hk : k ≤ 2) :
    s.memRead (s.offset.toNat + k) = .ok (s.byteAt k) := by
  have := (contract_iff s).1 h
  simp [State.memRead, State.byteAt, show ¬ s.bufLen ≤ s.offset.toNat + k by omega]

/-- Memory at reset lists nothing and has the canonical form. -/
theorem reset_mem_wf : State.reset.mem.wf = true := rfl

end Sys2Proof.Machine
end

