-- ==== Sys2Proof/Laws/State.lean ====
section
/-! SUPPORT. One lemma per field per update of `State`, true by `rfl`, so that no proof unfolds a record update. -/

namespace Sys2Proof.Machine

variable (s : State)

/-! ### deliver -/

@[simp] theorem State.deliver_optab (d : DecodedInstruction) (n : Cursor) : (s.deliver d n).optab = s.optab := rfl
@[simp] theorem State.deliver_mem (d : DecodedInstruction) (n : Cursor) : (s.deliver d n).mem = s.mem := rfl
@[simp] theorem State.deliver_bufLen (d : DecodedInstruction) (n : Cursor) : (s.deliver d n).bufLen = s.bufLen := rfl
@[simp] theorem State.deliver_imageLen (d : DecodedInstruction) (n : Cursor) : (s.deliver d n).imageLen = s.imageLen := rfl
@[simp] theorem State.deliver_start (d : DecodedInstruction) (n : Cursor) : (s.deliver d n).start = s.start := rfl
@[simp] theorem State.deliver_offset (d : DecodedInstruction) (n : Cursor) : (s.deliver d n).offset = n := rfl
@[simp] theorem State.deliver_stop (d : DecodedInstruction) (n : Cursor) : (s.deliver d n).stop = s.stop := rfl
@[simp] theorem State.deliver_cycleEn (d : DecodedInstruction) (n : Cursor) : (s.deliver d n).cycleEn = s.cycleEn := rfl
@[simp] theorem State.deliver_opcodeByte (d : DecodedInstruction) (n : Cursor) : (s.deliver d n).opcodeByte = s.opcodeByte := rfl
@[simp] theorem State.deliver_invalidMarker (d : DecodedInstruction) (n : Cursor) : (s.deliver d n).invalidMarker = s.invalidMarker := rfl
@[simp] theorem State.deliver_record (d : DecodedInstruction) (n : Cursor) : (s.deliver d n).record = some d := rfl
@[simp] theorem State.deliver_nextOffset (d : DecodedInstruction) (n : Cursor) : (s.deliver d n).nextOffset = some n := rfl
@[simp] theorem State.deliver_entry (d : DecodedInstruction) (n : Cursor) : (s.deliver d n).entry = s.entry := rfl
@[simp] theorem State.deliver_lines (d : DecodedInstruction) (n : Cursor) : (s.deliver d n).lines = s.lines ++ [d] := rfl

/-! ### answerClassify -/

@[simp] theorem State.answerClassify_optab (b : Byte) : (s.answerClassify b).optab = s.optab := rfl
@[simp] theorem State.answerClassify_mem (b : Byte) : (s.answerClassify b).mem = s.mem := rfl
@[simp] theorem State.answerClassify_bufLen (b : Byte) : (s.answerClassify b).bufLen = s.bufLen := rfl
@[simp] theorem State.answerClassify_imageLen (b : Byte) : (s.answerClassify b).imageLen = s.imageLen := rfl
@[simp] theorem State.answerClassify_start (b : Byte) : (s.answerClassify b).start = s.start := rfl
@[simp] theorem State.answerClassify_offset (b : Byte) : (s.answerClassify b).offset = s.offset := rfl
@[simp] theorem State.answerClassify_stop (b : Byte) : (s.answerClassify b).stop = s.stop := rfl
@[simp] theorem State.answerClassify_cycleEn (b : Byte) : (s.answerClassify b).cycleEn = s.cycleEn := rfl
@[simp] theorem State.answerClassify_opcodeByte (b : Byte) : (s.answerClassify b).opcodeByte = none := rfl
@[simp] theorem State.answerClassify_invalidMarker (b : Byte) : (s.answerClassify b).invalidMarker = s.invalidMarker := rfl
@[simp] theorem State.answerClassify_record (b : Byte) : (s.answerClassify b).record = s.record := rfl
@[simp] theorem State.answerClassify_nextOffset (b : Byte) : (s.answerClassify b).nextOffset = s.nextOffset := rfl
@[simp] theorem State.answerClassify_entry (b : Byte) : (s.answerClassify b).entry = some (s.classify b) := rfl
@[simp] theorem State.answerClassify_lines (b : Byte) : (s.answerClassify b).lines = s.lines := rfl

/-! ### requestClassify -/

@[simp] theorem State.requestClassify_optab (b : Byte) : (s.requestClassify b).optab = s.optab := rfl
@[simp] theorem State.requestClassify_mem (b : Byte) : (s.requestClassify b).mem = s.mem := rfl
@[simp] theorem State.requestClassify_bufLen (b : Byte) : (s.requestClassify b).bufLen = s.bufLen := rfl
@[simp] theorem State.requestClassify_imageLen (b : Byte) : (s.requestClassify b).imageLen = s.imageLen := rfl
@[simp] theorem State.requestClassify_start (b : Byte) : (s.requestClassify b).start = s.start := rfl
@[simp] theorem State.requestClassify_offset (b : Byte) : (s.requestClassify b).offset = s.offset := rfl
@[simp] theorem State.requestClassify_stop (b : Byte) : (s.requestClassify b).stop = s.stop := rfl
@[simp] theorem State.requestClassify_cycleEn (b : Byte) : (s.requestClassify b).cycleEn = s.cycleEn := rfl
@[simp] theorem State.requestClassify_opcodeByte (b : Byte) : (s.requestClassify b).opcodeByte = some b := rfl
@[simp] theorem State.requestClassify_invalidMarker (b : Byte) : (s.requestClassify b).invalidMarker = s.invalidMarker := rfl
@[simp] theorem State.requestClassify_record (b : Byte) : (s.requestClassify b).record = s.record := rfl
@[simp] theorem State.requestClassify_nextOffset (b : Byte) : (s.requestClassify b).nextOffset = s.nextOffset := rfl
@[simp] theorem State.requestClassify_entry (b : Byte) : (s.requestClassify b).entry = s.entry := rfl
@[simp] theorem State.requestClassify_lines (b : Byte) : (s.requestClassify b).lines = s.lines := rfl

/-! ### setCycleEn -/

@[simp] theorem State.setCycleEn_optab (c : Bool) : (s.setCycleEn c).optab = s.optab := rfl
@[simp] theorem State.setCycleEn_mem (c : Bool) : (s.setCycleEn c).mem = s.mem := rfl
@[simp] theorem State.setCycleEn_bufLen (c : Bool) : (s.setCycleEn c).bufLen = s.bufLen := rfl
@[simp] theorem State.setCycleEn_imageLen (c : Bool) : (s.setCycleEn c).imageLen = s.imageLen := rfl
@[simp] theorem State.setCycleEn_start (c : Bool) : (s.setCycleEn c).start = s.start := rfl
@[simp] theorem State.setCycleEn_offset (c : Bool) : (s.setCycleEn c).offset = s.offset := rfl
@[simp] theorem State.setCycleEn_stop (c : Bool) : (s.setCycleEn c).stop = s.stop := rfl
@[simp] theorem State.setCycleEn_cycleEn (c : Bool) : (s.setCycleEn c).cycleEn = c := rfl
@[simp] theorem State.setCycleEn_opcodeByte (c : Bool) : (s.setCycleEn c).opcodeByte = s.opcodeByte := rfl
@[simp] theorem State.setCycleEn_invalidMarker (c : Bool) : (s.setCycleEn c).invalidMarker = s.invalidMarker := rfl
@[simp] theorem State.setCycleEn_record (c : Bool) : (s.setCycleEn c).record = s.record := rfl
@[simp] theorem State.setCycleEn_nextOffset (c : Bool) : (s.setCycleEn c).nextOffset = s.nextOffset := rfl
@[simp] theorem State.setCycleEn_entry (c : Bool) : (s.setCycleEn c).entry = s.entry := rfl
@[simp] theorem State.setCycleEn_lines (c : Bool) : (s.setCycleEn c).lines = s.lines := rfl

/-! ### setInvalidMarker -/

@[simp] theorem State.setInvalidMarker_optab (m : String) : (s.setInvalidMarker m).optab = s.optab := rfl
@[simp] theorem State.setInvalidMarker_mem (m : String) : (s.setInvalidMarker m).mem = s.mem := rfl
@[simp] theorem State.setInvalidMarker_bufLen (m : String) : (s.setInvalidMarker m).bufLen = s.bufLen := rfl
@[simp] theorem State.setInvalidMarker_imageLen (m : String) : (s.setInvalidMarker m).imageLen = s.imageLen := rfl
@[simp] theorem State.setInvalidMarker_start (m : String) : (s.setInvalidMarker m).start = s.start := rfl
@[simp] theorem State.setInvalidMarker_offset (m : String) : (s.setInvalidMarker m).offset = s.offset := rfl
@[simp] theorem State.setInvalidMarker_stop (m : String) : (s.setInvalidMarker m).stop = s.stop := rfl
@[simp] theorem State.setInvalidMarker_cycleEn (m : String) : (s.setInvalidMarker m).cycleEn = s.cycleEn := rfl
@[simp] theorem State.setInvalidMarker_opcodeByte (m : String) : (s.setInvalidMarker m).opcodeByte = s.opcodeByte := rfl
@[simp] theorem State.setInvalidMarker_invalidMarker (m : String) : (s.setInvalidMarker m).invalidMarker = m := rfl
@[simp] theorem State.setInvalidMarker_record (m : String) : (s.setInvalidMarker m).record = s.record := rfl
@[simp] theorem State.setInvalidMarker_nextOffset (m : String) : (s.setInvalidMarker m).nextOffset = s.nextOffset := rfl
@[simp] theorem State.setInvalidMarker_entry (m : String) : (s.setInvalidMarker m).entry = s.entry := rfl
@[simp] theorem State.setInvalidMarker_lines (m : String) : (s.setInvalidMarker m).lines = s.lines := rfl

/-! ### morePadding -/

@[simp] theorem State.morePadding_optab (n : Nat) : (s.morePadding n).optab = s.optab := rfl
@[simp] theorem State.morePadding_mem (n : Nat) : (s.morePadding n).mem = s.mem := rfl
@[simp] theorem State.morePadding_bufLen (n : Nat) : (s.morePadding n).bufLen = s.bufLen + n := rfl
@[simp] theorem State.morePadding_imageLen (n : Nat) : (s.morePadding n).imageLen = s.imageLen := rfl
@[simp] theorem State.morePadding_start (n : Nat) : (s.morePadding n).start = s.start := rfl
@[simp] theorem State.morePadding_offset (n : Nat) : (s.morePadding n).offset = s.offset := rfl
@[simp] theorem State.morePadding_stop (n : Nat) : (s.morePadding n).stop = s.stop := rfl
@[simp] theorem State.morePadding_cycleEn (n : Nat) : (s.morePadding n).cycleEn = s.cycleEn := rfl
@[simp] theorem State.morePadding_opcodeByte (n : Nat) : (s.morePadding n).opcodeByte = s.opcodeByte := rfl
@[simp] theorem State.morePadding_invalidMarker (n : Nat) : (s.morePadding n).invalidMarker = s.invalidMarker := rfl
@[simp] theorem State.morePadding_record (n : Nat) : (s.morePadding n).record = s.record := rfl
@[simp] theorem State.morePadding_nextOffset (n : Nat) : (s.morePadding n).nextOffset = s.nextOffset := rfl
@[simp] theorem State.morePadding_entry (n : Nat) : (s.morePadding n).entry = s.entry := rfl
@[simp] theorem State.morePadding_lines (n : Nat) : (s.morePadding n).lines = s.lines := rfl

/-! ### resetWith -/

@[simp] theorem State.resetWith_optab (rom : Optab) : (State.resetWith rom).optab = rom := rfl
@[simp] theorem State.resetWith_mem (rom : Optab) : (State.resetWith rom).mem = [] := rfl
@[simp] theorem State.resetWith_bufLen (rom : Optab) : (State.resetWith rom).bufLen = 65538 := rfl
@[simp] theorem State.resetWith_imageLen (rom : Optab) : (State.resetWith rom).imageLen = 65536 := rfl
@[simp] theorem State.resetWith_start (rom : Optab) : (State.resetWith rom).start = 0 := rfl
@[simp] theorem State.resetWith_offset (rom : Optab) : (State.resetWith rom).offset = 0 := rfl
@[simp] theorem State.resetWith_stop (rom : Optab) : (State.resetWith rom).stop = 0 := rfl
@[simp] theorem State.resetWith_cycleEn (rom : Optab) : (State.resetWith rom).cycleEn = false := rfl
@[simp] theorem State.resetWith_opcodeByte (rom : Optab) : (State.resetWith rom).opcodeByte = none := rfl
@[simp] theorem State.resetWith_invalidMarker (rom : Optab) : (State.resetWith rom).invalidMarker = Config.invalidMarker := rfl
@[simp] theorem State.resetWith_record (rom : Optab) : (State.resetWith rom).record = none := rfl
@[simp] theorem State.resetWith_nextOffset (rom : Optab) : (State.resetWith rom).nextOffset = none := rfl
@[simp] theorem State.resetWith_entry (rom : Optab) : (State.resetWith rom).entry = none := rfl
@[simp] theorem State.resetWith_lines (rom : Optab) : (State.resetWith rom).lines = [] := rfl

/-- The reset state is that of the default table. -/
theorem State.resetWith_default : State.resetWith defaultOptab = State.reset := rfl

end Sys2Proof.Machine
end

