-- ==== Sys2Proof/Laws/Call.lean ====
section
/-! SUPPORT. One spec lemma per shared operation: what `decodeEntry`, `call`, `exec` and `step` can do, said once. -/

namespace Sys2Proof.Machine

/-! ### The cursor and the operand bytes -/

theorem width_le_two (m : Mode) : m.width ≤ 2 := by cases m <;> decide

theorem operandWidth_le_two (e : OpcodeEntry) : e.operandWidth ≤ 2 := by
  unfold OpcodeEntry.operandWidth; split
  · exact width_le_two _
  · decide

@[simp] theorem operandBytes_length (m : Mode) (b0 b1 : Byte) : (operandBytes m b0 b1).length = m.width := by
  cases m <;> rfl

/-- The cursor after a call, unwrapped. -/
theorem advance_toNat (o : Word) {w : Nat} (hw : w ≤ 2) : (advance o w).toNat = o.toNat + 1 + w := by
  have := o.isLt
  have h1 : (1 : Cursor).toNat = 1 := rfl
  simp only [advance, BitVec.toNat_add, BitVec.toNat_setWidth, BitVec.toNat_ofNat, h1]
  omega

/-- Under the contract the 16-bit offset of the call is the cursor. -/
theorem offsetWord_toNat {s : State} (h : s.contract = true) : s.offsetWord.toNat = s.offset.toNat := by
  have := ((contract_iff s).1 h).1
  simp only [State.offsetWord, BitVec.toNat_setWidth]
  omega

/-! ### decodeEntry -/

@[simp] theorem decodeEntry_invalid {e : OpcodeEntry} (h : e.valid = false) (op b0 b1 : Byte) (o : Word) (c : Bool) :
    decodeEntry e op b0 b1 o c = some (undefinedRecord e op o, advance o 0) := by
  simp [decodeEntry, h]

theorem decodeEntry_valid {e : OpcodeEntry} {m : String} (h : e.valid = true) (hm : e.mnemonic = .name m)
    (op b0 b1 : Byte) (o : Word) (c : Bool) :
    decodeEntry e op b0 b1 o c = some (validRecord e m op b0 b1 o c, advance o e.mode.width) := by
  simp [decodeEntry, h, hm]

/-- A record with a name, or an invalid one, always decodes. -/
theorem decodeEntry_of_named {e : OpcodeEntry} (h : e.named = true) (op b0 b1 : Byte) (o : Word) (c : Bool) :
    ∃ d n, decodeEntry e op b0 b1 o c = some (d, n) := by
  rcases hv : e.valid with _ | _
  · exact ⟨_, _, decodeEntry_invalid hv op b0 b1 o c⟩
  · rcases hm : e.mnemonic with m | _
    · exact ⟨_, _, decodeEntry_valid hv hm op b0 b1 o c⟩
    · simp [OpcodeEntry.named, hv, hm] at h

theorem named_of_wellformed {e : OpcodeEntry} (h : e.wellformed = true) : e.named = true := by
  unfold OpcodeEntry.wellformed at h; unfold OpcodeEntry.named
  split at h <;> simp_all

/-- Everything `decodeEntry` can answer: the undefined record of an invalid entry, or the valid record of a named
one. -/
theorem decodeEntry_cases {e : OpcodeEntry} {op b0 b1 : Byte} {o : Word} {c : Bool} {d : DecodedInstruction} {n : Cursor}
    (h : decodeEntry e op b0 b1 o c = some (d, n)) :
    (e.valid = false ∧ d = undefinedRecord e op o ∧ n = advance o 0) ∨
    (∃ m, e.valid = true ∧ e.mnemonic = .name m ∧ d = validRecord e m op b0 b1 o c ∧ n = advance o e.mode.width) := by
  rcases hv : e.valid with _ | _
  · rw [decodeEntry_invalid hv] at h
    simp only [Option.some.injEq, Prod.mk.injEq] at h
    exact .inl ⟨rfl, h.1.symm, h.2.symm⟩
  · rcases hm : e.mnemonic with m | _
    · rw [decodeEntry_valid hv hm] at h
      simp only [Option.some.injEq, Prod.mk.injEq] at h
      exact .inr ⟨m, rfl, rfl, h.1.symm, h.2.symm⟩
    · simp [decodeEntry, hv, hm] at h

/-- The bookkeeping fields of whatever record `decodeEntry` answers, and the cursor. -/
theorem decodeEntry_fields {e : OpcodeEntry} {op b0 b1 : Byte} {o : Word} {c : Bool} {d : DecodedInstruction} {n : Cursor}
    (h : decodeEntry e op b0 b1 o c = some (d, n)) :
    d.offset = o ∧ d.opcode = op ∧ d.mode = e.mode ∧ d.invalid = !e.valid ∧ d.operand.length = e.operandWidth ∧
      n = advance o e.operandWidth := by
  rcases decodeEntry_cases h with ⟨hv, rfl, rfl⟩ | ⟨m, hv, -, rfl, rfl⟩ <;>
    simp [undefinedRecord, validRecord, OpcodeEntry.operandWidth, hv]

/-! ### call and exec -/

theorem call_bufferBound {s : State} (h : s.contract = false) (op b0 b1 : Byte) :
    s.call op b0 b1 = .refused .bufferBound := by
  simp [State.call, h]

theorem call_next {s : State} {op b0 b1 : Byte} {d : DecodedInstruction} {n : Cursor} (h : s.contract = true)
    (hd : decodeEntry (s.optab.get op) op b0 b1 s.offsetWord s.cycleEn = some (d, n)) :
    s.call op b0 b1 = .next (s.deliver d n) := by
  simp [State.call, h, hd]

/-- Everything a call can answer when it answers a next state. -/
theorem call_eq_next_iff {s t : State} {op b0 b1 : Byte} :
    s.call op b0 b1 = .next t ↔
      s.contract = true ∧ ∃ d n, decodeEntry (s.optab.get op) op b0 b1 s.offsetWord s.cycleEn = some (d, n) ∧
        t = s.deliver d n := by
  constructor
  · intro e
    unfold State.call at e
    split at e
    next h =>
      split at e
      next d n hd => cases e; exact ⟨h, d, n, hd, rfl⟩
      next => cases e
    next => cases e
  · rintro ⟨h, d, n, hd, rfl⟩
    exact call_next h hd

/-- The first byte after the opcode that a call sees: the instruction's own operand byte, or the buffer's. -/
def ownByte0 (i : Instr) (s : State) : Byte := i.operand[0]?.getD (s.byteAt 1)

/-- The second byte after the opcode that a call sees. -/
def ownByte1 (i : Instr) (s : State) : Byte := i.operand[1]?.getD (s.byteAt 2)

/-- Every meaning is one call of its opcode with its own operand bytes. -/
theorem exec_eq_call (i : Instr) (s : State) : exec i s = s.call i.opcode (ownByte0 i s) (ownByte1 i s) := by
  cases i <;> rfl

/-! ### The opcode map and step -/

/-- What a cell of the opcode map decodes to has the cell's index as opcode and the cell's bytes as operand. -/
def cellOk (n : Nat) : Shape → Prop
  | .f0 i => i.opcode = BitVec.ofNat 8 n ∧ i.operand = []
  | .f1 mk => ∀ b, (mk b).opcode = BitVec.ofNat 8 n ∧ (mk b).operand = [b]
  | .f2 mk => ∀ w, (mk w).opcode = BitVec.ofNat 8 n ∧ (mk w).operand = [lowByte w, highByte w]

/-- `cellOk` of every cell of a list whose first cell has index `n`. -/
def cellsOk : Nat → List Shape → Prop
  | _, [] => True
  | n, c :: cs => cellOk n c ∧ cellsOk (n + 1) cs

theorem cellsOk_append {n : Nat} {cs ds : List Shape} (hc : cellsOk n cs) (hd : cellsOk (n + cs.length) ds) :
    cellsOk n (cs ++ ds) := by
  induction cs generalizing n with
  | nil => exact hd
  | cons c cs ih =>
    refine ⟨hc.1, ih hc.2 ?_⟩
    rwa [List.length_cons, Nat.add_comm cs.length, ← Nat.add_assoc] at hd

theorem cellsOk_get {n k : Nat} {cs : List Shape} (hc : cellsOk n cs) (h : k < cs.length) : cellOk (n + k) cs[k] := by
  induction cs generalizing n k with
  | nil => exact absurd h (Nat.not_lt_zero k)
  | cons c cs ih =>
    cases k with
    | zero => exact hc.1
    | succ k =>
      have := ih hc.2 (Nat.lt_of_succ_lt_succ h)
      rwa [Nat.add_right_comm] at this

theorem mapRow0_cells : cellsOk 0x00 mapRow0 := by
  simp [mapRow0, cellsOk, cellOk, Instr.opcode, Instr.operand]

theorem mapRow1_cells : cellsOk 0x10 mapRow1 := by
  simp [mapRow1, cellsOk, cellOk, Instr.opcode, Instr.operand]

theorem mapRow2_cells : cellsOk 0x20 mapRow2 := by
  simp [mapRow2, cellsOk, cellOk, Instr.opcode, Instr.operand]

theorem mapRow3_cells : cellsOk 0x30 mapRow3 := by
  simp [mapRow3, cellsOk, cellOk, Instr.opcode, Instr.operand]

theorem mapRow4_cells : cellsOk 0x40 mapRow4 := by
  simp [mapRow4, cellsOk, cellOk, Instr.opcode, Instr.operand]

theorem mapRow5_cells : cellsOk 0x50 mapRow5 := by
  simp [mapRow5, cellsOk, cellOk, Instr.opcode, Instr.operand]

theorem mapRow6_cells : cellsOk 0x60 mapRow6 := by
  simp [mapRow6, cellsOk, cellOk, Instr.opcode, Instr.operand]

theorem mapRow7_cells : cellsOk 0x70 mapRow7 := by
  simp [mapRow7, cellsOk, cellOk, Instr.opcode, Instr.operand]

theorem mapRow8_cells : cellsOk 0x80 mapRow8 := by
  simp [mapRow8, cellsOk, cellOk, Instr.opcode, Instr.operand]

theorem mapRow9_cells : cellsOk 0x90 mapRow9 := by
  simp [mapRow9, cellsOk, cellOk, Instr.opcode, Instr.operand]

theorem mapRowA_cells : cellsOk 0xA0 mapRowA := by
  simp [mapRowA, cellsOk, cellOk, Instr.opcode, Instr.operand]

theorem mapRowB_cells : cellsOk 0xB0 mapRowB := by
  simp [mapRowB, cellsOk, cellOk, Instr.opcode, Instr.operand]

theorem mapRowC_cells : cellsOk 0xC0 mapRowC := by
  simp [mapRowC, cellsOk, cellOk, Instr.opcode, Instr.operand]

theorem mapRowD_cells : cellsOk 0xD0 mapRowD := by
  simp [mapRowD, cellsOk, cellOk, Instr.opcode, Instr.operand]

theorem mapRowE_cells : cellsOk 0xE0 mapRowE := by
  simp [mapRowE, cellsOk, cellOk, Instr.opcode, Instr.operand]

theorem mapRowF_cells : cellsOk 0xF0 mapRowF := by
  simp [mapRowF, cellsOk, cellOk, Instr.opcode, Instr.operand]

@[simp] theorem mapRow0_length : mapRow0.length = 16 := rfl
@[simp] theorem mapRow1_length : mapRow1.length = 16 := rfl
@[simp] theorem mapRow2_length : mapRow2.length = 16 := rfl
@[simp] theorem mapRow3_length : mapRow3.length = 16 := rfl
@[simp] theorem mapRow4_length : mapRow4.length = 16 := rfl
@[simp] theorem mapRow5_length : mapRow5.length = 16 := rfl
@[simp] theorem mapRow6_length : mapRow6.length = 16 := rfl
@[simp] theorem mapRow7_length : mapRow7.length = 16 := rfl
@[simp] theorem mapRow8_length : mapRow8.length = 16 := rfl
@[simp] theorem mapRow9_length : mapRow9.length = 16 := rfl
@[simp] theorem mapRowA_length : mapRowA.length = 16 := rfl
@[simp] theorem mapRowB_length : mapRowB.length = 16 := rfl
@[simp] theorem mapRowC_length : mapRowC.length = 16 := rfl
@[simp] theorem mapRowD_length : mapRowD.length = 16 := rfl
@[simp] theorem mapRowE_length : mapRowE.length = 16 := rfl
@[simp] theorem mapRowF_length : mapRowF.length = 16 := rfl

theorem opcodeMap_cells : cellsOk 0 opcodeMap :=
  cellsOk_append (cellsOk_append (cellsOk_append (cellsOk_append (cellsOk_append (cellsOk_append (cellsOk_append (cellsOk_append (cellsOk_append (cellsOk_append (cellsOk_append (cellsOk_append (cellsOk_append (cellsOk_append (cellsOk_append (mapRow0_cells)
    (by simpa using mapRow1_cells))
    (by simpa using mapRow2_cells))
    (by simpa using mapRow3_cells))
    (by simpa using mapRow4_cells))
    (by simpa using mapRow5_cells))
    (by simpa using mapRow6_cells))
    (by simpa using mapRow7_cells))
    (by simpa using mapRow8_cells))
    (by simpa using mapRow9_cells))
    (by simpa using mapRowA_cells))
    (by simpa using mapRowB_cells))
    (by simpa using mapRowC_cells))
    (by simpa using mapRowD_cells))
    (by simpa using mapRowE_cells))
    (by simpa using mapRowF_cells)

theorem shapeOf_cell (op : Byte) : cellOk op.toNat (shapeOf op) := by
  simpa [shapeOf] using cellsOk_get opcodeMap_cells (opcodeMap_length ▸ op.isLt)

end Sys2Proof.Machine
end

