-- ==== Sys2Proof/Laws/Caller.lean ====
section
/-! SUPPORT. What each of the caller's moves can answer. -/

namespace Sys2Proof.Machine

/-- A guarded move answers exactly where its guard holds. -/
theorem guarded_eq_some {p : Prop} [Decidable p] {new t : State} :
    (if p then some new else none) = some t ↔ p ∧ t = new := by
  by_cases h : p <;> simp [h, eq_comm]

theorem loadImage_eq_some {s t : State} {image : List Byte} :
    s.loadImage image = some t ↔ (1 ≤ image.length ∧ image.length ≤ 65536) ∧
      t = { s with mem := Memory.writeList [] 0 image, imageLen := image.length, bufLen := image.length + 2,
                   start := 0, offset := 0, stop := 0 } := guarded_eq_some

theorem writeByte_eq_some {s t : State} {a : Nat} {b : Byte} :
    s.writeByte a b = some t ↔ a < s.imageLen ∧ t = { s with mem := s.mem.write a b } := guarded_eq_some

/-- The guard of the moves that set bounds is premise RUN_BOUNDS. -/
theorem runBounds_iff {s : State} {start stop : Cursor} :
    s.runBounds start stop = true ↔
      start.toNat < s.imageLen ∧ start.toNat ≤ stop.toNat ∧ stop.toNat ≤ s.imageLen ∧ s.imageLen ≤ 65536 :=
  decide_eq_true_iff

theorem beginRun_eq_some {s t : State} {start stop : Cursor} {c : Bool} :
    s.beginRun start stop c = some t ↔
      s.runBounds start stop = true ∧
      t = { s with start := start, offset := start, stop := stop, cycleEn := c, lines := [] } := guarded_eq_some

theorem setOffset_eq_some {s t : State} {offset : Cursor} :
    s.setOffset offset = some t ↔ offset.toNat ≤ 65535 ∧ t = { s with offset := offset } := guarded_eq_some

theorem setStop_eq_some {s t : State} {stop : Cursor} :
    s.setStop stop = some t ↔ s.runBounds s.start stop = true ∧ t = { s with stop := stop } := guarded_eq_some

/-- More padding keeps a padded buffer padded. -/
theorem morePadding_bufferOk {s : State} (h : BufferOk s) (n : Nat) : BufferOk (s.morePadding n) :=
  ⟨h.image_pos, h.image_le, Nat.le_add_right_of_le h.padded, h.canonical, h.in_image⟩

/-- More padding keeps every call within its contract. -/
theorem morePadding_contract {s : State} (h : s.contract = true) (n : Nat) : (s.morePadding n).contract = true := by
  rw [contract_iff] at h ⊢
  exact ⟨h.1, Nat.lt_add_right n h.2⟩

/-- The contract of a call is premises OFFSET_IN_RANGE and BUF_PADDED. -/
theorem contract_iff_premises (s : State) : s.contract = true ↔ OffsetInRange s ∧ BufPadded s := by
  rw [contract_iff]; exact and_congr Nat.lt_succ_iff Iff.rfl

/-- A read of contents stored as a list: the list's bytes at their indexes, every other byte as before. -/
theorem read_writeList {m : Memory} (bs : List Byte) (a x : Nat) (hm : m.wf = true) :
    (m.writeList a bs).read x = if a ≤ x then bs[x - a]?.getD (m.read x) else m.read x := by
  induction bs generalizing m a with
  | nil => simp [Memory.writeList]
  | cons b rest ih =>
    rw [Memory.writeList, ih _ (Memory.write_wf a b hm), Memory.read_write a b x hm]
    rcases Nat.lt_trichotomy x a with h | rfl | h
    · simp [show ¬ a + 1 ≤ x by omega, show ¬ a ≤ x by omega, show x ≠ a by omega]
    · simp
    · obtain ⟨k, rfl⟩ : ∃ k, x = a + 1 + k := ⟨x - (a + 1), by omega⟩
      simp [show a + 1 + k ≠ a by omega, show a + 1 + k - a = k + 1 by omega, show a ≤ a + 1 + k by omega]

end Sys2Proof.Machine
end

