-- ==== Sys2Proof/Laws/Step.lean ====
section
/-! SUPPORT. What a step can do, said once: it answers a pending `classify`, it makes one `decode` call with the three
bytes at the cursor, or it is idle at the stop bound. -/

namespace Sys2Proof.Machine

/-- A bit of a word made of two bytes. -/
theorem getLsbD_wordOf (lo hi : Byte) (i : Nat) :
    (wordOf lo hi).getLsbD i = if i < 8 then lo.getLsbD i else hi.getLsbD (i - 8) :=
  BitVec.getLsbD_append

@[simp] theorem lowByte_wordOf (lo hi : Byte) : lowByte (wordOf lo hi) = lo := by
  ext i h; simp [lowByte, getLsbD_wordOf, h, BitVec.getLsbD_eq_getElem]

@[simp] theorem highByte_wordOf (lo hi : Byte) : highByte (wordOf lo hi) = hi := by
  ext i h; simp [highByte, getLsbD_wordOf, h, BitVec.getLsbD_eq_getElem]

/-- The instruction three bytes spell has the first as opcode. -/
theorem decodeThree_opcode (op b0 b1 : Byte) : (decodeThree op b0 b1).opcode = op := by
  have h := shapeOf_cell op
  unfold decodeThree
  cases hs : shapeOf op <;> simp only [hs, cellOk] at h ⊢
  · simpa using h.1
  · simpa using (h b0).1
  · simpa using (h _).1

/-- Its operand is the bytes after the opcode, as many as its format has. -/
theorem decodeThree_operand (op b0 b1 : Byte) :
    (decodeThree op b0 b1).operand = [b0, b1].take (shapeOf op).format.operandBytes := by
  have h := shapeOf_cell op
  unfold decodeThree
  cases hs : shapeOf op <;> simp only [hs, cellOk] at h ⊢
  · exact h.2
  · exact (h b0).2
  · simpa [Shape.format, Format.operandBytes] using (h (wordOf b0 b1)).2

/-- Running the instruction that the three bytes at the cursor spell is one call with those bytes. -/
theorem exec_decodeThree (s : State) :
    exec (decodeThree (s.byteAt 0) (s.byteAt 1) (s.byteAt 2)) s = s.call (s.byteAt 0) (s.byteAt 1) (s.byteAt 2) := by
  rw [exec_eq_call, decodeThree_opcode]
  congr 1 <;> simp only [ownByte0, ownByte1, decodeThree_operand] <;>
    cases (shapeOf (s.byteAt 0)).format <;> rfl

theorem step_classify {s : State} {b : Byte} (h : s.opcodeByte = some b) : step s = .next (s.answerClassify b) := by
  simp [step, h]

theorem step_idle {s : State} (h : s.opcodeByte = none) (hs : ¬ s.offset < s.stop) : step s = .next s := by
  simp [step, h, hs]

theorem step_call {s : State} (h : s.opcodeByte = none) (hs : s.offset < s.stop) :
    step s = s.call (s.byteAt 0) (s.byteAt 1) (s.byteAt 2) := by
  simp only [step, h, if_pos hs]
  split
  · exact exec_decodeThree s
  next hc => rw [call_bufferBound (by simpa using hc)]

/-- Under the contract, what a call at the cursor sees is what `decodeAt` reads there. -/
theorem decodeAt_offsetWord {s : State} (h : s.contract = true) :
    s.decodeAt s.offsetWord =
      decodeEntry (s.optab.get (s.byteAt 0)) (s.byteAt 0) (s.byteAt 1) (s.byteAt 2) s.offsetWord s.cycleEn := by
  simp only [State.decodeAt, offsetWord_toNat h, State.byteAt, Nat.add_zero]

/-- Everything a step can do when it answers a next state. -/
theorem step_cases {s t : State} (h : step s = .next t) :
    (∃ b, s.opcodeByte = some b ∧ t = s.answerClassify b) ∨
    (s.opcodeByte = none ∧ ¬ s.offset < s.stop ∧ t = s) ∨
    (s.opcodeByte = none ∧ s.offset < s.stop ∧ s.contract = true ∧
      ∃ d n, s.decodeAt s.offsetWord = some (d, n) ∧ t = s.deliver d n) := by
  rcases ho : s.opcodeByte with _ | b
  · by_cases hs : s.offset < s.stop
    · rw [step_call ho hs, call_eq_next_iff] at h
      obtain ⟨hc, d, n, hd, rfl⟩ := h
      exact .inr (.inr ⟨rfl, hs, hc, d, n, by rw [decodeAt_offsetWord hc, hd], rfl⟩)
    · rw [step_idle ho hs] at h; cases h
      exact .inr (.inl ⟨rfl, hs, rfl⟩)
  · rw [step_classify ho] at h; cases h
    exact .inl ⟨b, rfl, rfl⟩

/-- A call the loop makes under a ROM whose record at the cursor is named delivers what `decodeAt` gives. -/
theorem step_delivers {s : State} (h : s.opcodeByte = none) (hs : s.offset < s.stop) (hc : s.contract = true)
    {d : DecodedInstruction} {n : Cursor} (hd : s.decodeAt s.offsetWord = some (d, n)) :
    step s = .next (s.deliver d n) := by
  rw [step_call h hs]; exact call_next hc (by rw [← hd, decodeAt_offsetWord hc])

end Sys2Proof.Machine
end

