-- ==== Sys2Proof/Laws/Operands.lean ====
section
/-! SUPPORT. The address arithmetic and the operand text of the dispatch, in numbers. -/

namespace Sys2Proof.Machine

theorem wordOf_toNat (lo hi : Byte) : (wordOf lo hi).toNat = hi.toNat * 256 + lo.toNat := by
  have h : (wordOf lo hi).toNat = hi.toNat <<< 8 ||| lo.toNat := BitVec.toNat_append ..
  rw [h, ← Nat.shiftLeft_add_eq_or_of_lt lo.isLt, Nat.shiftLeft_eq]

theorem lowByte_toNat (w : Word) : (lowByte w).toNat = w.toNat % 256 := by
  simp [lowByte, BitVec.extractLsb'_toNat]

theorem highByte_toNat (w : Word) : (highByte w).toNat = w.toNat / 256 := by
  simp [highByte, BitVec.extractLsb'_toNat, Nat.shiftRight_eq_div_pow]; omega

@[simp] theorem wordOf_low_high (w : Word) : wordOf (lowByte w) (highByte w) = w := by
  apply BitVec.eq_of_toNat_eq
  rw [wordOf_toNat, lowByte_toNat, highByte_toNat]; omega

theorem page_toNat (a : Word) : (page a).toNat = a.toNat / 256 := by
  simp [page, BitVec.extractLsb'_toNat, Nat.shiftRight_eq_div_pow]; omega

theorem addressAfter_toNat (o : Word) (w : Nat) : (addressAfter o w).toNat = (o.toNat + 1 + w) % 65536 := by
  simp [addressAfter]

theorem hex2_length (v : Byte) : (hex2 v).length = 2 := by simp [hex2]

@[simp] theorem instructionText_none (name : String) : instructionText name none = name := rfl

@[simp] theorem instructionText_some (name t : String) : instructionText name (some t) = name ++ " " ++ t := rfl

/-- Only Implied has no operand text. -/
theorem operandText_eq_none {m : Mode} {b0 b1 : Byte} {o : Word} : operandText m b0 b1 o = none ↔ m = .implied := by
  cases m <;> simp [operandText]

end Sys2Proof.Machine
end

