-- ==== Sys2Proof/Laws/PerInstr.lean ====
section
/-! SUPPORT. One lemma per instruction for the statements that hold of every instruction as syntax. -/

/-- The instruction carries exactly the operand bytes that the default ROM gives its opcode (rules R51, R52, R55), and
the record has a name if it is valid. -/
def Sys2Proof.Laws.OperandCount.Statement (i : Sys2Proof.Instr) : Prop := i.wellFormed = true

theorem Sys2Proof.Laws.OperandCount.ldaIzx (b : Sys2Proof.Byte) : Sys2Proof.Laws.OperandCount.Statement (.ldaIzx b) := rfl

theorem Sys2Proof.Laws.OperandCount.ldaZp (b : Sys2Proof.Byte) : Sys2Proof.Laws.OperandCount.Statement (.ldaZp b) := rfl

theorem Sys2Proof.Laws.OperandCount.ldaImm (b : Sys2Proof.Byte) : Sys2Proof.Laws.OperandCount.Statement (.ldaImm b) := rfl

theorem Sys2Proof.Laws.OperandCount.ldaAbs (w : Sys2Proof.Word) : Sys2Proof.Laws.OperandCount.Statement (.ldaAbs w) := rfl

theorem Sys2Proof.Laws.OperandCount.ldaIzy (b : Sys2Proof.Byte) : Sys2Proof.Laws.OperandCount.Statement (.ldaIzy b) := rfl

theorem Sys2Proof.Laws.OperandCount.ldaZpx (b : Sys2Proof.Byte) : Sys2Proof.Laws.OperandCount.Statement (.ldaZpx b) := rfl

theorem Sys2Proof.Laws.OperandCount.ldaAby (w : Sys2Proof.Word) : Sys2Proof.Laws.OperandCount.Statement (.ldaAby w) := rfl

theorem Sys2Proof.Laws.OperandCount.ldaAbx (w : Sys2Proof.Word) : Sys2Proof.Laws.OperandCount.Statement (.ldaAbx w) := rfl

theorem Sys2Proof.Laws.OperandCount.ldxImm (b : Sys2Proof.Byte) : Sys2Proof.Laws.OperandCount.Statement (.ldxImm b) := rfl

theorem Sys2Proof.Laws.OperandCount.ldxZp (b : Sys2Proof.Byte) : Sys2Proof.Laws.OperandCount.Statement (.ldxZp b) := rfl

theorem Sys2Proof.Laws.OperandCount.ldxAbs (w : Sys2Proof.Word) : Sys2Proof.Laws.OperandCount.Statement (.ldxAbs w) := rfl

theorem Sys2Proof.Laws.OperandCount.ldxZpy (b : Sys2Proof.Byte) : Sys2Proof.Laws.OperandCount.Statement (.ldxZpy b) := rfl

theorem Sys2Proof.Laws.OperandCount.ldxAby (w : Sys2Proof.Word) : Sys2Proof.Laws.OperandCount.Statement (.ldxAby w) := rfl

theorem Sys2Proof.Laws.OperandCount.ldyImm (b : Sys2Proof.Byte) : Sys2Proof.Laws.OperandCount.Statement (.ldyImm b) := rfl

theorem Sys2Proof.Laws.OperandCount.ldyZp (b : Sys2Proof.Byte) : Sys2Proof.Laws.OperandCount.Statement (.ldyZp b) := rfl

theorem Sys2Proof.Laws.OperandCount.ldyAbs (w : Sys2Proof.Word) : Sys2Proof.Laws.OperandCount.Statement (.ldyAbs w) := rfl

theorem Sys2Proof.Laws.OperandCount.ldyZpx (b : Sys2Proof.Byte) : Sys2Proof.Laws.OperandCount.Statement (.ldyZpx b) := rfl

theorem Sys2Proof.Laws.OperandCount.ldyAbx (w : Sys2Proof.Word) : Sys2Proof.Laws.OperandCount.Statement (.ldyAbx w) := rfl

theorem Sys2Proof.Laws.OperandCount.staIzx (b : Sys2Proof.Byte) : Sys2Proof.Laws.OperandCount.Statement (.staIzx b) := rfl

theorem Sys2Proof.Laws.OperandCount.staZp (b : Sys2Proof.Byte) : Sys2Proof.Laws.OperandCount.Statement (.staZp b) := rfl

theorem Sys2Proof.Laws.OperandCount.staAbs (w : Sys2Proof.Word) : Sys2Proof.Laws.OperandCount.Statement (.staAbs w) := rfl

theorem Sys2Proof.Laws.OperandCount.staIzy (b : Sys2Proof.Byte) : Sys2Proof.Laws.OperandCount.Statement (.staIzy b) := rfl

theorem Sys2Proof.Laws.OperandCount.staZpx (b : Sys2Proof.Byte) : Sys2Proof.Laws.OperandCount.Statement (.staZpx b) := rfl

theorem Sys2Proof.Laws.OperandCount.staAby (w : Sys2Proof.Word) : Sys2Proof.Laws.OperandCount.Statement (.staAby w) := rfl

theorem Sys2Proof.Laws.OperandCount.staAbx (w : Sys2Proof.Word) : Sys2Proof.Laws.OperandCount.Statement (.staAbx w) := rfl

theorem Sys2Proof.Laws.OperandCount.stxZp (b : Sys2Proof.Byte) : Sys2Proof.Laws.OperandCount.Statement (.stxZp b) := rfl

theorem Sys2Proof.Laws.OperandCount.stxAbs (w : Sys2Proof.Word) : Sys2Proof.Laws.OperandCount.Statement (.stxAbs w) := rfl

theorem Sys2Proof.Laws.OperandCount.stxZpy (b : Sys2Proof.Byte) : Sys2Proof.Laws.OperandCount.Statement (.stxZpy b) := rfl

theorem Sys2Proof.Laws.OperandCount.styZp (b : Sys2Proof.Byte) : Sys2Proof.Laws.OperandCount.Statement (.styZp b) := rfl

theorem Sys2Proof.Laws.OperandCount.styAbs (w : Sys2Proof.Word) : Sys2Proof.Laws.OperandCount.Statement (.styAbs w) := rfl

theorem Sys2Proof.Laws.OperandCount.styZpx (b : Sys2Proof.Byte) : Sys2Proof.Laws.OperandCount.Statement (.styZpx b) := rfl

theorem Sys2Proof.Laws.OperandCount.tax : Sys2Proof.Laws.OperandCount.Statement .tax := rfl

theorem Sys2Proof.Laws.OperandCount.tay : Sys2Proof.Laws.OperandCount.Statement .tay := rfl

theorem Sys2Proof.Laws.OperandCount.tsx : Sys2Proof.Laws.OperandCount.Statement .tsx := rfl

theorem Sys2Proof.Laws.OperandCount.txa : Sys2Proof.Laws.OperandCount.Statement .txa := rfl

theorem Sys2Proof.Laws.OperandCount.txs : Sys2Proof.Laws.OperandCount.Statement .txs := rfl

theorem Sys2Proof.Laws.OperandCount.tya : Sys2Proof.Laws.OperandCount.Statement .tya := rfl

theorem Sys2Proof.Laws.OperandCount.pha : Sys2Proof.Laws.OperandCount.Statement .pha := rfl

theorem Sys2Proof.Laws.OperandCount.php : Sys2Proof.Laws.OperandCount.Statement .php := rfl

theorem Sys2Proof.Laws.OperandCount.pla : Sys2Proof.Laws.OperandCount.Statement .pla := rfl

theorem Sys2Proof.Laws.OperandCount.plp : Sys2Proof.Laws.OperandCount.Statement .plp := rfl

theorem Sys2Proof.Laws.OperandCount.adcIzx (b : Sys2Proof.Byte) : Sys2Proof.Laws.OperandCount.Statement (.adcIzx b) := rfl

theorem Sys2Proof.Laws.OperandCount.adcZp (b : Sys2Proof.Byte) : Sys2Proof.Laws.OperandCount.Statement (.adcZp b) := rfl

theorem Sys2Proof.Laws.OperandCount.adcImm (b : Sys2Proof.Byte) : Sys2Proof.Laws.OperandCount.Statement (.adcImm b) := rfl

theorem Sys2Proof.Laws.OperandCount.adcAbs (w : Sys2Proof.Word) : Sys2Proof.Laws.OperandCount.Statement (.adcAbs w) := rfl

theorem Sys2Proof.Laws.OperandCount.adcIzy (b : Sys2Proof.Byte) : Sys2Proof.Laws.OperandCount.Statement (.adcIzy b) := rfl

theorem Sys2Proof.Laws.OperandCount.adcZpx (b : Sys2Proof.Byte) : Sys2Proof.Laws.OperandCount.Statement (.adcZpx b) := rfl

theorem Sys2Proof.Laws.OperandCount.adcAby (w : Sys2Proof.Word) : Sys2Proof.Laws.OperandCount.Statement (.adcAby w) := rfl

theorem Sys2Proof.Laws.OperandCount.adcAbx (w : Sys2Proof.Word) : Sys2Proof.Laws.OperandCount.Statement (.adcAbx w) := rfl

theorem Sys2Proof.Laws.OperandCount.sbcIzx (b : Sys2Proof.Byte) : Sys2Proof.Laws.OperandCount.Statement (.sbcIzx b) := rfl

theorem Sys2Proof.Laws.OperandCount.sbcZp (b : Sys2Proof.Byte) : Sys2Proof.Laws.OperandCount.Statement (.sbcZp b) := rfl

theorem Sys2Proof.Laws.OperandCount.sbcImm (b : Sys2Proof.Byte) : Sys2Proof.Laws.OperandCount.Statement (.sbcImm b) := rfl

theorem Sys2Proof.Laws.OperandCount.sbcAbs (w : Sys2Proof.Word) : Sys2Proof.Laws.OperandCount.Statement (.sbcAbs w) := rfl

theorem Sys2Proof.Laws.OperandCount.sbcIzy (b : Sys2Proof.Byte) : Sys2Proof.Laws.OperandCount.Statement (.sbcIzy b) := rfl

theorem Sys2Proof.Laws.OperandCount.sbcZpx (b : Sys2Proof.Byte) : Sys2Proof.Laws.OperandCount.Statement (.sbcZpx b) := rfl

theorem Sys2Proof.Laws.OperandCount.sbcAby (w : Sys2Proof.Word) : Sys2Proof.Laws.OperandCount.Statement (.sbcAby w) := rfl

theorem Sys2Proof.Laws.OperandCount.sbcAbx (w : Sys2Proof.Word) : Sys2Proof.Laws.OperandCount.Statement (.sbcAbx w) := rfl

theorem Sys2Proof.Laws.OperandCount.andIzx (b : Sys2Proof.Byte) : Sys2Proof.Laws.OperandCount.Statement (.andIzx b) := rfl

theorem Sys2Proof.Laws.OperandCount.andZp (b : Sys2Proof.Byte) : Sys2Proof.Laws.OperandCount.Statement (.andZp b) := rfl

theorem Sys2Proof.Laws.OperandCount.andImm (b : Sys2Proof.Byte) : Sys2Proof.Laws.OperandCount.Statement (.andImm b) := rfl

theorem Sys2Proof.Laws.OperandCount.andAbs (w : Sys2Proof.Word) : Sys2Proof.Laws.OperandCount.Statement (.andAbs w) := rfl

theorem Sys2Proof.Laws.OperandCount.andIzy (b : Sys2Proof.Byte) : Sys2Proof.Laws.OperandCount.Statement (.andIzy b) := rfl

theorem Sys2Proof.Laws.OperandCount.andZpx (b : Sys2Proof.Byte) : Sys2Proof.Laws.OperandCount.Statement (.andZpx b) := rfl

theorem Sys2Proof.Laws.OperandCount.andAby (w : Sys2Proof.Word) : Sys2Proof.Laws.OperandCount.Statement (.andAby w) := rfl

theorem Sys2Proof.Laws.OperandCount.andAbx (w : Sys2Proof.Word) : Sys2Proof.Laws.OperandCount.Statement (.andAbx w) := rfl

theorem Sys2Proof.Laws.OperandCount.oraIzx (b : Sys2Proof.Byte) : Sys2Proof.Laws.OperandCount.Statement (.oraIzx b) := rfl

theorem Sys2Proof.Laws.OperandCount.oraZp (b : Sys2Proof.Byte) : Sys2Proof.Laws.OperandCount.Statement (.oraZp b) := rfl

theorem Sys2Proof.Laws.OperandCount.oraImm (b : Sys2Proof.Byte) : Sys2Proof.Laws.OperandCount.Statement (.oraImm b) := rfl

theorem Sys2Proof.Laws.OperandCount.oraAbs (w : Sys2Proof.Word) : Sys2Proof.Laws.OperandCount.Statement (.oraAbs w) := rfl

theorem Sys2Proof.Laws.OperandCount.oraIzy (b : Sys2Proof.Byte) : Sys2Proof.Laws.OperandCount.Statement (.oraIzy b) := rfl

theorem Sys2Proof.Laws.OperandCount.oraZpx (b : Sys2Proof.Byte) : Sys2Proof.Laws.OperandCount.Statement (.oraZpx b) := rfl

theorem Sys2Proof.Laws.OperandCount.oraAby (w : Sys2Proof.Word) : Sys2Proof.Laws.OperandCount.Statement (.oraAby w) := rfl

theorem Sys2Proof.Laws.OperandCount.oraAbx (w : Sys2Proof.Word) : Sys2Proof.Laws.OperandCount.Statement (.oraAbx w) := rfl

theorem Sys2Proof.Laws.OperandCount.eorIzx (b : Sys2Proof.Byte) : Sys2Proof.Laws.OperandCount.Statement (.eorIzx b) := rfl

theorem Sys2Proof.Laws.OperandCount.eorZp (b : Sys2Proof.Byte) : Sys2Proof.Laws.OperandCount.Statement (.eorZp b) := rfl

theorem Sys2Proof.Laws.OperandCount.eorImm (b : Sys2Proof.Byte) : Sys2Proof.Laws.OperandCount.Statement (.eorImm b) := rfl

theorem Sys2Proof.Laws.OperandCount.eorAbs (w : Sys2Proof.Word) : Sys2Proof.Laws.OperandCount.Statement (.eorAbs w) := rfl

theorem Sys2Proof.Laws.OperandCount.eorIzy (b : Sys2Proof.Byte) : Sys2Proof.Laws.OperandCount.Statement (.eorIzy b) := rfl

theorem Sys2Proof.Laws.OperandCount.eorZpx (b : Sys2Proof.Byte) : Sys2Proof.Laws.OperandCount.Statement (.eorZpx b) := rfl

theorem Sys2Proof.Laws.OperandCount.eorAby (w : Sys2Proof.Word) : Sys2Proof.Laws.OperandCount.Statement (.eorAby w) := rfl

theorem Sys2Proof.Laws.OperandCount.eorAbx (w : Sys2Proof.Word) : Sys2Proof.Laws.OperandCount.Statement (.eorAbx w) := rfl

theorem Sys2Proof.Laws.OperandCount.cmpIzx (b : Sys2Proof.Byte) : Sys2Proof.Laws.OperandCount.Statement (.cmpIzx b) := rfl

theorem Sys2Proof.Laws.OperandCount.cmpZp (b : Sys2Proof.Byte) : Sys2Proof.Laws.OperandCount.Statement (.cmpZp b) := rfl

theorem Sys2Proof.Laws.OperandCount.cmpImm (b : Sys2Proof.Byte) : Sys2Proof.Laws.OperandCount.Statement (.cmpImm b) := rfl

theorem Sys2Proof.Laws.OperandCount.cmpAbs (w : Sys2Proof.Word) : Sys2Proof.Laws.OperandCount.Statement (.cmpAbs w) := rfl

theorem Sys2Proof.Laws.OperandCount.cmpIzy (b : Sys2Proof.Byte) : Sys2Proof.Laws.OperandCount.Statement (.cmpIzy b) := rfl

theorem Sys2Proof.Laws.OperandCount.cmpZpx (b : Sys2Proof.Byte) : Sys2Proof.Laws.OperandCount.Statement (.cmpZpx b) := rfl

theorem Sys2Proof.Laws.OperandCount.cmpAby (w : Sys2Proof.Word) : Sys2Proof.Laws.OperandCount.Statement (.cmpAby w) := rfl

theorem Sys2Proof.Laws.OperandCount.cmpAbx (w : Sys2Proof.Word) : Sys2Proof.Laws.OperandCount.Statement (.cmpAbx w) := rfl

theorem Sys2Proof.Laws.OperandCount.cpxImm (b : Sys2Proof.Byte) : Sys2Proof.Laws.OperandCount.Statement (.cpxImm b) := rfl

theorem Sys2Proof.Laws.OperandCount.cpxZp (b : Sys2Proof.Byte) : Sys2Proof.Laws.OperandCount.Statement (.cpxZp b) := rfl

theorem Sys2Proof.Laws.OperandCount.cpxAbs (w : Sys2Proof.Word) : Sys2Proof.Laws.OperandCount.Statement (.cpxAbs w) := rfl

theorem Sys2Proof.Laws.OperandCount.cpyImm (b : Sys2Proof.Byte) : Sys2Proof.Laws.OperandCount.Statement (.cpyImm b) := rfl

theorem Sys2Proof.Laws.OperandCount.cpyZp (b : Sys2Proof.Byte) : Sys2Proof.Laws.OperandCount.Statement (.cpyZp b) := rfl

theorem Sys2Proof.Laws.OperandCount.cpyAbs (w : Sys2Proof.Word) : Sys2Proof.Laws.OperandCount.Statement (.cpyAbs w) := rfl

theorem Sys2Proof.Laws.OperandCount.bitZp (b : Sys2Proof.Byte) : Sys2Proof.Laws.OperandCount.Statement (.bitZp b) := rfl

theorem Sys2Proof.Laws.OperandCount.bitAbs (w : Sys2Proof.Word) : Sys2Proof.Laws.OperandCount.Statement (.bitAbs w) := rfl

theorem Sys2Proof.Laws.OperandCount.incZp (b : Sys2Proof.Byte) : Sys2Proof.Laws.OperandCount.Statement (.incZp b) := rfl

theorem Sys2Proof.Laws.OperandCount.incAbs (w : Sys2Proof.Word) : Sys2Proof.Laws.OperandCount.Statement (.incAbs w) := rfl

theorem Sys2Proof.Laws.OperandCount.incZpx (b : Sys2Proof.Byte) : Sys2Proof.Laws.OperandCount.Statement (.incZpx b) := rfl

theorem Sys2Proof.Laws.OperandCount.incAbx (w : Sys2Proof.Word) : Sys2Proof.Laws.OperandCount.Statement (.incAbx w) := rfl

theorem Sys2Proof.Laws.OperandCount.inx : Sys2Proof.Laws.OperandCount.Statement .inx := rfl

theorem Sys2Proof.Laws.OperandCount.iny : Sys2Proof.Laws.OperandCount.Statement .iny := rfl

theorem Sys2Proof.Laws.OperandCount.decZp (b : Sys2Proof.Byte) : Sys2Proof.Laws.OperandCount.Statement (.decZp b) := rfl

theorem Sys2Proof.Laws.OperandCount.decAbs (w : Sys2Proof.Word) : Sys2Proof.Laws.OperandCount.Statement (.decAbs w) := rfl

theorem Sys2Proof.Laws.OperandCount.decZpx (b : Sys2Proof.Byte) : Sys2Proof.Laws.OperandCount.Statement (.decZpx b) := rfl

theorem Sys2Proof.Laws.OperandCount.decAbx (w : Sys2Proof.Word) : Sys2Proof.Laws.OperandCount.Statement (.decAbx w) := rfl

theorem Sys2Proof.Laws.OperandCount.dex : Sys2Proof.Laws.OperandCount.Statement .dex := rfl

theorem Sys2Proof.Laws.OperandCount.dey : Sys2Proof.Laws.OperandCount.Statement .dey := rfl

theorem Sys2Proof.Laws.OperandCount.aslZp (b : Sys2Proof.Byte) : Sys2Proof.Laws.OperandCount.Statement (.aslZp b) := rfl

theorem Sys2Proof.Laws.OperandCount.aslAcc : Sys2Proof.Laws.OperandCount.Statement .aslAcc := rfl

theorem Sys2Proof.Laws.OperandCount.aslAbs (w : Sys2Proof.Word) : Sys2Proof.Laws.OperandCount.Statement (.aslAbs w) := rfl

theorem Sys2Proof.Laws.OperandCount.aslZpx (b : Sys2Proof.Byte) : Sys2Proof.Laws.OperandCount.Statement (.aslZpx b) := rfl

theorem Sys2Proof.Laws.OperandCount.aslAbx (w : Sys2Proof.Word) : Sys2Proof.Laws.OperandCount.Statement (.aslAbx w) := rfl

theorem Sys2Proof.Laws.OperandCount.lsrZp (b : Sys2Proof.Byte) : Sys2Proof.Laws.OperandCount.Statement (.lsrZp b) := rfl

theorem Sys2Proof.Laws.OperandCount.lsrAcc : Sys2Proof.Laws.OperandCount.Statement .lsrAcc := rfl

theorem Sys2Proof.Laws.OperandCount.lsrAbs (w : Sys2Proof.Word) : Sys2Proof.Laws.OperandCount.Statement (.lsrAbs w) := rfl

theorem Sys2Proof.Laws.OperandCount.lsrZpx (b : Sys2Proof.Byte) : Sys2Proof.Laws.OperandCount.Statement (.lsrZpx b) := rfl

theorem Sys2Proof.Laws.OperandCount.lsrAbx (w : Sys2Proof.Word) : Sys2Proof.Laws.OperandCount.Statement (.lsrAbx w) := rfl

theorem Sys2Proof.Laws.OperandCount.rolZp (b : Sys2Proof.Byte) : Sys2Proof.Laws.OperandCount.Statement (.rolZp b) := rfl

theorem Sys2Proof.Laws.OperandCount.rolAcc : Sys2Proof.Laws.OperandCount.Statement .rolAcc := rfl

theorem Sys2Proof.Laws.OperandCount.rolAbs (w : Sys2Proof.Word) : Sys2Proof.Laws.OperandCount.Statement (.rolAbs w) := rfl

theorem Sys2Proof.Laws.OperandCount.rolZpx (b : Sys2Proof.Byte) : Sys2Proof.Laws.OperandCount.Statement (.rolZpx b) := rfl

theorem Sys2Proof.Laws.OperandCount.rolAbx (w : Sys2Proof.Word) : Sys2Proof.Laws.OperandCount.Statement (.rolAbx w) := rfl

theorem Sys2Proof.Laws.OperandCount.rorZp (b : Sys2Proof.Byte) : Sys2Proof.Laws.OperandCount.Statement (.rorZp b) := rfl

theorem Sys2Proof.Laws.OperandCount.rorAcc : Sys2Proof.Laws.OperandCount.Statement .rorAcc := rfl

theorem Sys2Proof.Laws.OperandCount.rorAbs (w : Sys2Proof.Word) : Sys2Proof.Laws.OperandCount.Statement (.rorAbs w) := rfl

theorem Sys2Proof.Laws.OperandCount.rorZpx (b : Sys2Proof.Byte) : Sys2Proof.Laws.OperandCount.Statement (.rorZpx b) := rfl

theorem Sys2Proof.Laws.OperandCount.rorAbx (w : Sys2Proof.Word) : Sys2Proof.Laws.OperandCount.Statement (.rorAbx w) := rfl

theorem Sys2Proof.Laws.OperandCount.bcc (d : Sys2Proof.Byte) : Sys2Proof.Laws.OperandCount.Statement (.bcc d) := rfl

theorem Sys2Proof.Laws.OperandCount.bcs (d : Sys2Proof.Byte) : Sys2Proof.Laws.OperandCount.Statement (.bcs d) := rfl

theorem Sys2Proof.Laws.OperandCount.beq (d : Sys2Proof.Byte) : Sys2Proof.Laws.OperandCount.Statement (.beq d) := rfl

theorem Sys2Proof.Laws.OperandCount.bmi (d : Sys2Proof.Byte) : Sys2Proof.Laws.OperandCount.Statement (.bmi d) := rfl

theorem Sys2Proof.Laws.OperandCount.bne (d : Sys2Proof.Byte) : Sys2Proof.Laws.OperandCount.Statement (.bne d) := rfl

theorem Sys2Proof.Laws.OperandCount.bpl (d : Sys2Proof.Byte) : Sys2Proof.Laws.OperandCount.Statement (.bpl d) := rfl

theorem Sys2Proof.Laws.OperandCount.bvc (d : Sys2Proof.Byte) : Sys2Proof.Laws.OperandCount.Statement (.bvc d) := rfl

theorem Sys2Proof.Laws.OperandCount.bvs (d : Sys2Proof.Byte) : Sys2Proof.Laws.OperandCount.Statement (.bvs d) := rfl

theorem Sys2Proof.Laws.OperandCount.jmpAbs (w : Sys2Proof.Word) : Sys2Proof.Laws.OperandCount.Statement (.jmpAbs w) := rfl

theorem Sys2Proof.Laws.OperandCount.jmpInd (w : Sys2Proof.Word) : Sys2Proof.Laws.OperandCount.Statement (.jmpInd w) := rfl

theorem Sys2Proof.Laws.OperandCount.jsrAbs (w : Sys2Proof.Word) : Sys2Proof.Laws.OperandCount.Statement (.jsrAbs w) := rfl

theorem Sys2Proof.Laws.OperandCount.rts : Sys2Proof.Laws.OperandCount.Statement .rts := rfl

theorem Sys2Proof.Laws.OperandCount.rti : Sys2Proof.Laws.OperandCount.Statement .rti := rfl

theorem Sys2Proof.Laws.OperandCount.brk : Sys2Proof.Laws.OperandCount.Statement .brk := rfl

theorem Sys2Proof.Laws.OperandCount.clc : Sys2Proof.Laws.OperandCount.Statement .clc := rfl

theorem Sys2Proof.Laws.OperandCount.cld : Sys2Proof.Laws.OperandCount.Statement .cld := rfl

theorem Sys2Proof.Laws.OperandCount.cli : Sys2Proof.Laws.OperandCount.Statement .cli := rfl

theorem Sys2Proof.Laws.OperandCount.clv : Sys2Proof.Laws.OperandCount.Statement .clv := rfl

theorem Sys2Proof.Laws.OperandCount.sec : Sys2Proof.Laws.OperandCount.Statement .sec := rfl

theorem Sys2Proof.Laws.OperandCount.sed : Sys2Proof.Laws.OperandCount.Statement .sed := rfl

theorem Sys2Proof.Laws.OperandCount.sei : Sys2Proof.Laws.OperandCount.Statement .sei := rfl

theorem Sys2Proof.Laws.OperandCount.nop : Sys2Proof.Laws.OperandCount.Statement .nop := rfl

theorem Sys2Proof.Laws.OperandCount.byte02 : Sys2Proof.Laws.OperandCount.Statement .byte02 := rfl

theorem Sys2Proof.Laws.OperandCount.byte03 : Sys2Proof.Laws.OperandCount.Statement .byte03 := rfl

theorem Sys2Proof.Laws.OperandCount.byte04 : Sys2Proof.Laws.OperandCount.Statement .byte04 := rfl

theorem Sys2Proof.Laws.OperandCount.byte07 : Sys2Proof.Laws.OperandCount.Statement .byte07 := rfl

theorem Sys2Proof.Laws.OperandCount.byte0B : Sys2Proof.Laws.OperandCount.Statement .byte0B := rfl

theorem Sys2Proof.Laws.OperandCount.byte0C : Sys2Proof.Laws.OperandCount.Statement .byte0C := rfl

theorem Sys2Proof.Laws.OperandCount.byte0F : Sys2Proof.Laws.OperandCount.Statement .byte0F := rfl

theorem Sys2Proof.Laws.OperandCount.byte12 : Sys2Proof.Laws.OperandCount.Statement .byte12 := rfl

theorem Sys2Proof.Laws.OperandCount.byte13 : Sys2Proof.Laws.OperandCount.Statement .byte13 := rfl

theorem Sys2Proof.Laws.OperandCount.byte14 : Sys2Proof.Laws.OperandCount.Statement .byte14 := rfl

theorem Sys2Proof.Laws.OperandCount.byte17 : Sys2Proof.Laws.OperandCount.Statement .byte17 := rfl

theorem Sys2Proof.Laws.OperandCount.byte1A : Sys2Proof.Laws.OperandCount.Statement .byte1A := rfl

theorem Sys2Proof.Laws.OperandCount.byte1B : Sys2Proof.Laws.OperandCount.Statement .byte1B := rfl

theorem Sys2Proof.Laws.OperandCount.byte1C : Sys2Proof.Laws.OperandCount.Statement .byte1C := rfl

theorem Sys2Proof.Laws.OperandCount.byte1F : Sys2Proof.Laws.OperandCount.Statement .byte1F := rfl

theorem Sys2Proof.Laws.OperandCount.byte22 : Sys2Proof.Laws.OperandCount.Statement .byte22 := rfl

theorem Sys2Proof.Laws.OperandCount.byte23 : Sys2Proof.Laws.OperandCount.Statement .byte23 := rfl

theorem Sys2Proof.Laws.OperandCount.byte27 : Sys2Proof.Laws.OperandCount.Statement .byte27 := rfl

theorem Sys2Proof.Laws.OperandCount.byte2B : Sys2Proof.Laws.OperandCount.Statement .byte2B := rfl

theorem Sys2Proof.Laws.OperandCount.byte2F : Sys2Proof.Laws.OperandCount.Statement .byte2F := rfl

theorem Sys2Proof.Laws.OperandCount.byte32 : Sys2Proof.Laws.OperandCount.Statement .byte32 := rfl

theorem Sys2Proof.Laws.OperandCount.byte33 : Sys2Proof.Laws.OperandCount.Statement .byte33 := rfl

theorem Sys2Proof.Laws.OperandCount.byte34 : Sys2Proof.Laws.OperandCount.Statement .byte34 := rfl

theorem Sys2Proof.Laws.OperandCount.byte37 : Sys2Proof.Laws.OperandCount.Statement .byte37 := rfl

theorem Sys2Proof.Laws.OperandCount.byte3A : Sys2Proof.Laws.OperandCount.Statement .byte3A := rfl

theorem Sys2Proof.Laws.OperandCount.byte3B : Sys2Proof.Laws.OperandCount.Statement .byte3B := rfl

theorem Sys2Proof.Laws.OperandCount.byte3C : Sys2Proof.Laws.OperandCount.Statement .byte3C := rfl

theorem Sys2Proof.Laws.OperandCount.byte3F : Sys2Proof.Laws.OperandCount.Statement .byte3F := rfl

theorem Sys2Proof.Laws.OperandCount.byte42 : Sys2Proof.Laws.OperandCount.Statement .byte42 := rfl

theorem Sys2Proof.Laws.OperandCount.byte43 : Sys2Proof.Laws.OperandCount.Statement .byte43 := rfl

theorem Sys2Proof.Laws.OperandCount.byte44 : Sys2Proof.Laws.OperandCount.Statement .byte44 := rfl

theorem Sys2Proof.Laws.OperandCount.byte47 : Sys2Proof.Laws.OperandCount.Statement .byte47 := rfl

theorem Sys2Proof.Laws.OperandCount.byte4B : Sys2Proof.Laws.OperandCount.Statement .byte4B := rfl

theorem Sys2Proof.Laws.OperandCount.byte4F : Sys2Proof.Laws.OperandCount.Statement .byte4F := rfl

theorem Sys2Proof.Laws.OperandCount.byte52 : Sys2Proof.Laws.OperandCount.Statement .byte52 := rfl

theorem Sys2Proof.Laws.OperandCount.byte53 : Sys2Proof.Laws.OperandCount.Statement .byte53 := rfl

theorem Sys2Proof.Laws.OperandCount.byte54 : Sys2Proof.Laws.OperandCount.Statement .byte54 := rfl

theorem Sys2Proof.Laws.OperandCount.byte57 : Sys2Proof.Laws.OperandCount.Statement .byte57 := rfl

theorem Sys2Proof.Laws.OperandCount.byte5A : Sys2Proof.Laws.OperandCount.Statement .byte5A := rfl

theorem Sys2Proof.Laws.OperandCount.byte5B : Sys2Proof.Laws.OperandCount.Statement .byte5B := rfl

theorem Sys2Proof.Laws.OperandCount.byte5C : Sys2Proof.Laws.OperandCount.Statement .byte5C := rfl

theorem Sys2Proof.Laws.OperandCount.byte5F : Sys2Proof.Laws.OperandCount.Statement .byte5F := rfl

theorem Sys2Proof.Laws.OperandCount.byte62 : Sys2Proof.Laws.OperandCount.Statement .byte62 := rfl

theorem Sys2Proof.Laws.OperandCount.byte63 : Sys2Proof.Laws.OperandCount.Statement .byte63 := rfl

theorem Sys2Proof.Laws.OperandCount.byte64 : Sys2Proof.Laws.OperandCount.Statement .byte64 := rfl

theorem Sys2Proof.Laws.OperandCount.byte67 : Sys2Proof.Laws.OperandCount.Statement .byte67 := rfl

theorem Sys2Proof.Laws.OperandCount.byte6B : Sys2Proof.Laws.OperandCount.Statement .byte6B := rfl

theorem Sys2Proof.Laws.OperandCount.byte6F : Sys2Proof.Laws.OperandCount.Statement .byte6F := rfl

theorem Sys2Proof.Laws.OperandCount.byte72 : Sys2Proof.Laws.OperandCount.Statement .byte72 := rfl

theorem Sys2Proof.Laws.OperandCount.byte73 : Sys2Proof.Laws.OperandCount.Statement .byte73 := rfl

theorem Sys2Proof.Laws.OperandCount.byte74 : Sys2Proof.Laws.OperandCount.Statement .byte74 := rfl

theorem Sys2Proof.Laws.OperandCount.byte77 : Sys2Proof.Laws.OperandCount.Statement .byte77 := rfl

theorem Sys2Proof.Laws.OperandCount.byte7A : Sys2Proof.Laws.OperandCount.Statement .byte7A := rfl

theorem Sys2Proof.Laws.OperandCount.byte7B : Sys2Proof.Laws.OperandCount.Statement .byte7B := rfl

theorem Sys2Proof.Laws.OperandCount.byte7C : Sys2Proof.Laws.OperandCount.Statement .byte7C := rfl

theorem Sys2Proof.Laws.OperandCount.byte7F : Sys2Proof.Laws.OperandCount.Statement .byte7F := rfl

theorem Sys2Proof.Laws.OperandCount.byte80 : Sys2Proof.Laws.OperandCount.Statement .byte80 := rfl

theorem Sys2Proof.Laws.OperandCount.byte82 : Sys2Proof.Laws.OperandCount.Statement .byte82 := rfl

theorem Sys2Proof.Laws.OperandCount.byte83 : Sys2Proof.Laws.OperandCount.Statement .byte83 := rfl

theorem Sys2Proof.Laws.OperandCount.byte87 : Sys2Proof.Laws.OperandCount.Statement .byte87 := rfl

theorem Sys2Proof.Laws.OperandCount.byte89 : Sys2Proof.Laws.OperandCount.Statement .byte89 := rfl

theorem Sys2Proof.Laws.OperandCount.byte8B : Sys2Proof.Laws.OperandCount.Statement .byte8B := rfl

theorem Sys2Proof.Laws.OperandCount.byte8F : Sys2Proof.Laws.OperandCount.Statement .byte8F := rfl

theorem Sys2Proof.Laws.OperandCount.byte92 : Sys2Proof.Laws.OperandCount.Statement .byte92 := rfl

theorem Sys2Proof.Laws.OperandCount.byte93 : Sys2Proof.Laws.OperandCount.Statement .byte93 := rfl

theorem Sys2Proof.Laws.OperandCount.byte97 : Sys2Proof.Laws.OperandCount.Statement .byte97 := rfl

theorem Sys2Proof.Laws.OperandCount.byte9B : Sys2Proof.Laws.OperandCount.Statement .byte9B := rfl

theorem Sys2Proof.Laws.OperandCount.byte9C : Sys2Proof.Laws.OperandCount.Statement .byte9C := rfl

theorem Sys2Proof.Laws.OperandCount.byte9E : Sys2Proof.Laws.OperandCount.Statement .byte9E := rfl

theorem Sys2Proof.Laws.OperandCount.byte9F : Sys2Proof.Laws.OperandCount.Statement .byte9F := rfl

theorem Sys2Proof.Laws.OperandCount.byteA3 : Sys2Proof.Laws.OperandCount.Statement .byteA3 := rfl

theorem Sys2Proof.Laws.OperandCount.byteA7 : Sys2Proof.Laws.OperandCount.Statement .byteA7 := rfl

theorem Sys2Proof.Laws.OperandCount.byteAB : Sys2Proof.Laws.OperandCount.Statement .byteAB := rfl

theorem Sys2Proof.Laws.OperandCount.byteAF : Sys2Proof.Laws.OperandCount.Statement .byteAF := rfl

theorem Sys2Proof.Laws.OperandCount.byteB2 : Sys2Proof.Laws.OperandCount.Statement .byteB2 := rfl

theorem Sys2Proof.Laws.OperandCount.byteB3 : Sys2Proof.Laws.OperandCount.Statement .byteB3 := rfl

theorem Sys2Proof.Laws.OperandCount.byteB7 : Sys2Proof.Laws.OperandCount.Statement .byteB7 := rfl

theorem Sys2Proof.Laws.OperandCount.byteBB : Sys2Proof.Laws.OperandCount.Statement .byteBB := rfl

theorem Sys2Proof.Laws.OperandCount.byteBF : Sys2Proof.Laws.OperandCount.Statement .byteBF := rfl

theorem Sys2Proof.Laws.OperandCount.byteC2 : Sys2Proof.Laws.OperandCount.Statement .byteC2 := rfl

theorem Sys2Proof.Laws.OperandCount.byteC3 : Sys2Proof.Laws.OperandCount.Statement .byteC3 := rfl

theorem Sys2Proof.Laws.OperandCount.byteC7 : Sys2Proof.Laws.OperandCount.Statement .byteC7 := rfl

theorem Sys2Proof.Laws.OperandCount.byteCB : Sys2Proof.Laws.OperandCount.Statement .byteCB := rfl

theorem Sys2Proof.Laws.OperandCount.byteCF : Sys2Proof.Laws.OperandCount.Statement .byteCF := rfl

theorem Sys2Proof.Laws.OperandCount.byteD2 : Sys2Proof.Laws.OperandCount.Statement .byteD2 := rfl

theorem Sys2Proof.Laws.OperandCount.byteD3 : Sys2Proof.Laws.OperandCount.Statement .byteD3 := rfl

theorem Sys2Proof.Laws.OperandCount.byteD4 : Sys2Proof.Laws.OperandCount.Statement .byteD4 := rfl

theorem Sys2Proof.Laws.OperandCount.byteD7 : Sys2Proof.Laws.OperandCount.Statement .byteD7 := rfl

theorem Sys2Proof.Laws.OperandCount.byteDA : Sys2Proof.Laws.OperandCount.Statement .byteDA := rfl

theorem Sys2Proof.Laws.OperandCount.byteDB : Sys2Proof.Laws.OperandCount.Statement .byteDB := rfl

theorem Sys2Proof.Laws.OperandCount.byteDC : Sys2Proof.Laws.OperandCount.Statement .byteDC := rfl

theorem Sys2Proof.Laws.OperandCount.byteDF : Sys2Proof.Laws.OperandCount.Statement .byteDF := rfl

theorem Sys2Proof.Laws.OperandCount.byteE2 : Sys2Proof.Laws.OperandCount.Statement .byteE2 := rfl

theorem Sys2Proof.Laws.OperandCount.byteE3 : Sys2Proof.Laws.OperandCount.Statement .byteE3 := rfl

theorem Sys2Proof.Laws.OperandCount.byteE7 : Sys2Proof.Laws.OperandCount.Statement .byteE7 := rfl

theorem Sys2Proof.Laws.OperandCount.byteEB : Sys2Proof.Laws.OperandCount.Statement .byteEB := rfl

theorem Sys2Proof.Laws.OperandCount.byteEF : Sys2Proof.Laws.OperandCount.Statement .byteEF := rfl

theorem Sys2Proof.Laws.OperandCount.byteF2 : Sys2Proof.Laws.OperandCount.Statement .byteF2 := rfl

theorem Sys2Proof.Laws.OperandCount.byteF3 : Sys2Proof.Laws.OperandCount.Statement .byteF3 := rfl

theorem Sys2Proof.Laws.OperandCount.byteF4 : Sys2Proof.Laws.OperandCount.Statement .byteF4 := rfl

theorem Sys2Proof.Laws.OperandCount.byteF7 : Sys2Proof.Laws.OperandCount.Statement .byteF7 := rfl

theorem Sys2Proof.Laws.OperandCount.byteFA : Sys2Proof.Laws.OperandCount.Statement .byteFA := rfl

theorem Sys2Proof.Laws.OperandCount.byteFB : Sys2Proof.Laws.OperandCount.Statement .byteFB := rfl

theorem Sys2Proof.Laws.OperandCount.byteFC : Sys2Proof.Laws.OperandCount.Statement .byteFC := rfl

theorem Sys2Proof.Laws.OperandCount.byteFF : Sys2Proof.Laws.OperandCount.Statement .byteFF := rfl
end

