-- ==== Sys2Proof/Tests/Slice0.lean ====
section
/-! SUPPORT. The model's own tests. Expected values come from the encodings of spec/opcode_table.json, from
spec/95_test_vectors.md and from the rules named; and, at the end, a witness for the hypotheses of every statement. -/

set_option Elab.async false

namespace Sys2Proof.Tests

open Machine

/-! ### Helpers -/

/-- Reset, then the bytes given at offset `o` in an image of 65536 bytes, the cursor there and the stop bound one further,
annotation on. -/
def sample (o : Nat) (bytes : List Byte) : State :=
  { State.reset with
    mem := Memory.writeList [] o bytes, offset := BitVec.ofNat 17 o, start := BitVec.ofNat 17 o,
    stop := BitVec.ofNat 17 (o + 1), cycleEn := true }

/-- The next state, where there is one. -/
def nextOf : Result → Option State
  | .next t => some t
  | .fault _ => none
  | .refused _ => none

/-- The refusal, where there is one. -/
def refusalOf : Result → Option Refusal
  | .next _ => none
  | .fault _ => none
  | .refused r => some r

/-- What a vector of spec/95_test_vectors.md states of a line. -/
structure Shown where
  text : String
  resolved : Option Word
  next : Nat
  cycles : Option String
  invalid : Bool
deriving DecidableEq, Repr

/-- The line a result returned. -/
def shown (r : Result) : Option Shown :=
  (nextOf r).bind fun t => t.record.map fun d => ⟨d.text, d.resolved, t.offset.toNat, d.cyclesText, d.invalid⟩

theorem next_of_isSome {r : Result} (h : (nextOf r).isSome = true) : ∃ t, r = .next t := by
  cases r <;> simp_all [nextOf]

theorem refused_of {r : Result} {x : Refusal} (h : refusalOf r = some x) : r = .refused x := by
  cases r <;> simp_all [refusalOf]

/-- A result whose line satisfies a decidable test is a next state with that line. -/
theorem line_of {r : Result} {p : State → DecodedInstruction → Bool}
    (h : ((nextOf r).any fun t => t.record.any fun d => p t d) = true) :
    ∃ t d, r = .next t ∧ t.record = some d ∧ p t d = true := by
  rcases r with t | _ | _ <;> simp only [nextOf, Option.any_none, Bool.false_eq_true] at h
  simp only [Option.any_some] at h
  rcases hd : t.record with _ | d
  · simp [hd] at h
  · exact ⟨t, d, rfl, hd, by simpa [hd] using h⟩

/-- The default table with another record at one byte. -/
def romWith (b : Byte) (e : OpcodeEntry) : Optab := defaultOptab.set b.toNat e b.isLt

/-- What the decoder reads from words numbered as spec/opcode_table.json numbers them. -/
def words (l : List (Nat × Nat)) : List (Option Instr) := l.map fun p => decodeTableWord p.1 p.2

/-! ### WellFormed: an ill-formed term for each check -/

/-- A ROM that gives 0xA9 a two-byte operand: the one-byte form no longer fits. -/
theorem test_wellFormed_refuses_length :
    (Instr.ldaImm 0x10).lengthFits (romWith 0xA9 (plainEntry "LDA" .absolute 4)) = false ∧
    (Instr.ldaImm 0x10).wellFormedIn (romWith 0xA9 (plainEntry "LDA" .absolute 4)) = false ∧
    (Instr.ldaImm 0x10).wellFormed = true := by decide +kernel

/-- A ROM that marks 0xEA valid and gives it no name. -/
theorem test_wellFormed_refuses_nameless :
    Instr.nop.entryNamed (romWith 0xEA ⟨.illegal, .implied, 2, ⟨false, false⟩, true⟩) = false ∧
    Instr.nop.wellFormedIn (romWith 0xEA ⟨.illegal, .implied, 2, ⟨false, false⟩, true⟩) = false ∧
    Instr.nop.wellFormed = true := by decide +kernel

/-- Premise ROM_WELLFORMED refuses a name of two letters and one in lower case. -/
theorem test_romWellformed_refuses :
    (plainEntry "LD" .immediate 2).wellformed = false ∧ (plainEntry "lda" .immediate 2).wellformed = false ∧
    (plainEntry "LDA" .immediate 2).wellformed = true := by decide +kernel

/-! ### Decoding: every opcode byte, its word written out from the `encoding` column of spec/opcode_table.json (operand
byte 01000100, displacement 11111110, word 00010010 00110100), the first byte in the low bits -/

theorem test_decode_row_0 : words [
    (8, 0b00000000), (16, 0b01000100_00000001), (8, 0b00000010), (8, 0b00000011),
    (8, 0b00000100), (16, 0b01000100_00000101), (16, 0b01000100_00000110), (8, 0b00000111),
    (8, 0b00001000), (16, 0b01000100_00001001), (8, 0b00001010), (8, 0b00001011),
    (8, 0b00001100), (24, 0b00010010_00110100_00001101), (24, 0b00010010_00110100_00001110), (8, 0b00001111)] =
  [
    some .brk, some (.oraIzx 0x44), some .byte02, some .byte03,
    some .byte04, some (.oraZp 0x44), some (.aslZp 0x44), some .byte07,
    some .php, some (.oraImm 0x44), some .aslAcc, some .byte0B,
    some .byte0C, some (.oraAbs 0x1234), some (.aslAbs 0x1234), some .byte0F] := by decide +kernel

theorem test_decode_row_1 : words [
    (16, 0b11111110_00010000), (16, 0b01000100_00010001), (8, 0b00010010), (8, 0b00010011),
    (8, 0b00010100), (16, 0b01000100_00010101), (16, 0b01000100_00010110), (8, 0b00010111),
    (8, 0b00011000), (24, 0b00010010_00110100_00011001), (8, 0b00011010), (8, 0b00011011),
    (8, 0b00011100), (24, 0b00010010_00110100_00011101), (24, 0b00010010_00110100_00011110), (8, 0b00011111)] =
  [
    some (.bpl 0xFE), some (.oraIzy 0x44), some .byte12, some .byte13,
    some .byte14, some (.oraZpx 0x44), some (.aslZpx 0x44), some .byte17,
    some .clc, some (.oraAby 0x1234), some .byte1A, some .byte1B,
    some .byte1C, some (.oraAbx 0x1234), some (.aslAbx 0x1234), some .byte1F] := by decide +kernel

theorem test_decode_row_2 : words [
    (24, 0b00010010_00110100_00100000), (16, 0b01000100_00100001), (8, 0b00100010), (8, 0b00100011),
    (16, 0b01000100_00100100), (16, 0b01000100_00100101), (16, 0b01000100_00100110), (8, 0b00100111),
    (8, 0b00101000), (16, 0b01000100_00101001), (8, 0b00101010), (8, 0b00101011),
    (24, 0b00010010_00110100_00101100), (24, 0b00010010_00110100_00101101), (24, 0b00010010_00110100_00101110), (8, 0b00101111)] =
  [
    some (.jsrAbs 0x1234), some (.andIzx 0x44), some .byte22, some .byte23,
    some (.bitZp 0x44), some (.andZp 0x44), some (.rolZp 0x44), some .byte27,
    some .plp, some (.andImm 0x44), some .rolAcc, some .byte2B,
    some (.bitAbs 0x1234), some (.andAbs 0x1234), some (.rolAbs 0x1234), some .byte2F] := by decide +kernel

theorem test_decode_row_3 : words [
    (16, 0b11111110_00110000), (16, 0b01000100_00110001), (8, 0b00110010), (8, 0b00110011),
    (8, 0b00110100), (16, 0b01000100_00110101), (16, 0b01000100_00110110), (8, 0b00110111),
    (8, 0b00111000), (24, 0b00010010_00110100_00111001), (8, 0b00111010), (8, 0b00111011),
    (8, 0b00111100), (24, 0b00010010_00110100_00111101), (24, 0b00010010_00110100_00111110), (8, 0b00111111)] =
  [
    some (.bmi 0xFE), some (.andIzy 0x44), some .byte32, some .byte33,
    some .byte34, some (.andZpx 0x44), some (.rolZpx 0x44), some .byte37,
    some .sec, some (.andAby 0x1234), some .byte3A, some .byte3B,
    some .byte3C, some (.andAbx 0x1234), some (.rolAbx 0x1234), some .byte3F] := by decide +kernel

theorem test_decode_row_4 : words [
    (8, 0b01000000), (16, 0b01000100_01000001), (8, 0b01000010), (8, 0b01000011),
    (8, 0b01000100), (16, 0b01000100_01000101), (16, 0b01000100_01000110), (8, 0b01000111),
    (8, 0b01001000), (16, 0b01000100_01001001), (8, 0b01001010), (8, 0b01001011),
    (24, 0b00010010_00110100_01001100), (24, 0b00010010_00110100_01001101), (24, 0b00010010_00110100_01001110), (8, 0b01001111)] =
  [
    some .rti, some (.eorIzx 0x44), some .byte42, some .byte43,
    some .byte44, some (.eorZp 0x44), some (.lsrZp 0x44), some .byte47,
    some .pha, some (.eorImm 0x44), some .lsrAcc, some .byte4B,
    some (.jmpAbs 0x1234), some (.eorAbs 0x1234), some (.lsrAbs 0x1234), some .byte4F] := by decide +kernel

theorem test_decode_row_5 : words [
    (16, 0b11111110_01010000), (16, 0b01000100_01010001), (8, 0b01010010), (8, 0b01010011),
    (8, 0b01010100), (16, 0b01000100_01010101), (16, 0b01000100_01010110), (8, 0b01010111),
    (8, 0b01011000), (24, 0b00010010_00110100_01011001), (8, 0b01011010), (8, 0b01011011),
    (8, 0b01011100), (24, 0b00010010_00110100_01011101), (24, 0b00010010_00110100_01011110), (8, 0b01011111)] =
  [
    some (.bvc 0xFE), some (.eorIzy 0x44), some .byte52, some .byte53,
    some .byte54, some (.eorZpx 0x44), some (.lsrZpx 0x44), some .byte57,
    some .cli, some (.eorAby 0x1234), some .byte5A, some .byte5B,
    some .byte5C, some (.eorAbx 0x1234), some (.lsrAbx 0x1234), some .byte5F] := by decide +kernel

theorem test_decode_row_6 : words [
    (8, 0b01100000), (16, 0b01000100_01100001), (8, 0b01100010), (8, 0b01100011),
    (8, 0b01100100), (16, 0b01000100_01100101), (16, 0b01000100_01100110), (8, 0b01100111),
    (8, 0b01101000), (16, 0b01000100_01101001), (8, 0b01101010), (8, 0b01101011),
    (24, 0b00010010_00110100_01101100), (24, 0b00010010_00110100_01101101), (24, 0b00010010_00110100_01101110), (8, 0b01101111)] =
  [
    some .rts, some (.adcIzx 0x44), some .byte62, some .byte63,
    some .byte64, some (.adcZp 0x44), some (.rorZp 0x44), some .byte67,
    some .pla, some (.adcImm 0x44), some .rorAcc, some .byte6B,
    some (.jmpInd 0x1234), some (.adcAbs 0x1234), some (.rorAbs 0x1234), some .byte6F] := by decide +kernel

theorem test_decode_row_7 : words [
    (16, 0b11111110_01110000), (16, 0b01000100_01110001), (8, 0b01110010), (8, 0b01110011),
    (8, 0b01110100), (16, 0b01000100_01110101), (16, 0b01000100_01110110), (8, 0b01110111),
    (8, 0b01111000), (24, 0b00010010_00110100_01111001), (8, 0b01111010), (8, 0b01111011),
    (8, 0b01111100), (24, 0b00010010_00110100_01111101), (24, 0b00010010_00110100_01111110), (8, 0b01111111)] =
  [
    some (.bvs 0xFE), some (.adcIzy 0x44), some .byte72, some .byte73,
    some .byte74, some (.adcZpx 0x44), some (.rorZpx 0x44), some .byte77,
    some .sei, some (.adcAby 0x1234), some .byte7A, some .byte7B,
    some .byte7C, some (.adcAbx 0x1234), some (.rorAbx 0x1234), some .byte7F] := by decide +kernel

theorem test_decode_row_8 : words [
    (8, 0b10000000), (16, 0b01000100_10000001), (8, 0b10000010), (8, 0b10000011),
    (16, 0b01000100_10000100), (16, 0b01000100_10000101), (16, 0b01000100_10000110), (8, 0b10000111),
    (8, 0b10001000), (8, 0b10001001), (8, 0b10001010), (8, 0b10001011),
    (24, 0b00010010_00110100_10001100), (24, 0b00010010_00110100_10001101), (24, 0b00010010_00110100_10001110), (8, 0b10001111)] =
  [
    some .byte80, some (.staIzx 0x44), some .byte82, some .byte83,
    some (.styZp 0x44), some (.staZp 0x44), some (.stxZp 0x44), some .byte87,
    some .dey, some .byte89, some .txa, some .byte8B,
    some (.styAbs 0x1234), some (.staAbs 0x1234), some (.stxAbs 0x1234), some .byte8F] := by decide +kernel

theorem test_decode_row_9 : words [
    (16, 0b11111110_10010000), (16, 0b01000100_10010001), (8, 0b10010010), (8, 0b10010011),
    (16, 0b01000100_10010100), (16, 0b01000100_10010101), (16, 0b01000100_10010110), (8, 0b10010111),
    (8, 0b10011000), (24, 0b00010010_00110100_10011001), (8, 0b10011010), (8, 0b10011011),
    (8, 0b10011100), (24, 0b00010010_00110100_10011101), (8, 0b10011110), (8, 0b10011111)] =
  [
    some (.bcc 0xFE), some (.staIzy 0x44), some .byte92, some .byte93,
    some (.styZpx 0x44), some (.staZpx 0x44), some (.stxZpy 0x44), some .byte97,
    some .tya, some (.staAby 0x1234), some .txs, some .byte9B,
    some .byte9C, some (.staAbx 0x1234), some .byte9E, some .byte9F] := by decide +kernel

theorem test_decode_row_A : words [
    (16, 0b01000100_10100000), (16, 0b01000100_10100001), (16, 0b01000100_10100010), (8, 0b10100011),
    (16, 0b01000100_10100100), (16, 0b01000100_10100101), (16, 0b01000100_10100110), (8, 0b10100111),
    (8, 0b10101000), (16, 0b01000100_10101001), (8, 0b10101010), (8, 0b10101011),
    (24, 0b00010010_00110100_10101100), (24, 0b00010010_00110100_10101101), (24, 0b00010010_00110100_10101110), (8, 0b10101111)] =
  [
    some (.ldyImm 0x44), some (.ldaIzx 0x44), some (.ldxImm 0x44), some .byteA3,
    some (.ldyZp 0x44), some (.ldaZp 0x44), some (.ldxZp 0x44), some .byteA7,
    some .tay, some (.ldaImm 0x44), some .tax, some .byteAB,
    some (.ldyAbs 0x1234), some (.ldaAbs 0x1234), some (.ldxAbs 0x1234), some .byteAF] := by decide +kernel

theorem test_decode_row_B : words [
    (16, 0b11111110_10110000), (16, 0b01000100_10110001), (8, 0b10110010), (8, 0b10110011),
    (16, 0b01000100_10110100), (16, 0b01000100_10110101), (16, 0b01000100_10110110), (8, 0b10110111),
    (8, 0b10111000), (24, 0b00010010_00110100_10111001), (8, 0b10111010), (8, 0b10111011),
    (24, 0b00010010_00110100_10111100), (24, 0b00010010_00110100_10111101), (24, 0b00010010_00110100_10111110), (8, 0b10111111)] =
  [
    some (.bcs 0xFE), some (.ldaIzy 0x44), some .byteB2, some .byteB3,
    some (.ldyZpx 0x44), some (.ldaZpx 0x44), some (.ldxZpy 0x44), some .byteB7,
    some .clv, some (.ldaAby 0x1234), some .tsx, some .byteBB,
    some (.ldyAbx 0x1234), some (.ldaAbx 0x1234), some (.ldxAby 0x1234), some .byteBF] := by decide +kernel

theorem test_decode_row_C : words [
    (16, 0b01000100_11000000), (16, 0b01000100_11000001), (8, 0b11000010), (8, 0b11000011),
    (16, 0b01000100_11000100), (16, 0b01000100_11000101), (16, 0b01000100_11000110), (8, 0b11000111),
    (8, 0b11001000), (16, 0b01000100_11001001), (8, 0b11001010), (8, 0b11001011),
    (24, 0b00010010_00110100_11001100), (24, 0b00010010_00110100_11001101), (24, 0b00010010_00110100_11001110), (8, 0b11001111)] =
  [
    some (.cpyImm 0x44), some (.cmpIzx 0x44), some .byteC2, some .byteC3,
    some (.cpyZp 0x44), some (.cmpZp 0x44), some (.decZp 0x44), some .byteC7,
    some .iny, some (.cmpImm 0x44), some .dex, some .byteCB,
    some (.cpyAbs 0x1234), some (.cmpAbs 0x1234), some (.decAbs 0x1234), some .byteCF] := by decide +kernel

theorem test_decode_row_D : words [
    (16, 0b11111110_11010000), (16, 0b01000100_11010001), (8, 0b11010010), (8, 0b11010011),
    (8, 0b11010100), (16, 0b01000100_11010101), (16, 0b01000100_11010110), (8, 0b11010111),
    (8, 0b11011000), (24, 0b00010010_00110100_11011001), (8, 0b11011010), (8, 0b11011011),
    (8, 0b11011100), (24, 0b00010010_00110100_11011101), (24, 0b00010010_00110100_11011110), (8, 0b11011111)] =
  [
    some (.bne 0xFE), some (.cmpIzy 0x44), some .byteD2, some .byteD3,
    some .byteD4, some (.cmpZpx 0x44), some (.decZpx 0x44), some .byteD7,
    some .cld, some (.cmpAby 0x1234), some .byteDA, some .byteDB,
    some .byteDC, some (.cmpAbx 0x1234), some (.decAbx 0x1234), some .byteDF] := by decide +kernel

theorem test_decode_row_E : words [
    (16, 0b01000100_11100000), (16, 0b01000100_11100001), (8, 0b11100010), (8, 0b11100011),
    (16, 0b01000100_11100100), (16, 0b01000100_11100101), (16, 0b01000100_11100110), (8, 0b11100111),
    (8, 0b11101000), (16, 0b01000100_11101001), (8, 0b11101010), (8, 0b11101011),
    (24, 0b00010010_00110100_11101100), (24, 0b00010010_00110100_11101101), (24, 0b00010010_00110100_11101110), (8, 0b11101111)] =
  [
    some (.cpxImm 0x44), some (.sbcIzx 0x44), some .byteE2, some .byteE3,
    some (.cpxZp 0x44), some (.sbcZp 0x44), some (.incZp 0x44), some .byteE7,
    some .inx, some (.sbcImm 0x44), some .nop, some .byteEB,
    some (.cpxAbs 0x1234), some (.sbcAbs 0x1234), some (.incAbs 0x1234), some .byteEF] := by decide +kernel

theorem test_decode_row_F : words [
    (16, 0b11111110_11110000), (16, 0b01000100_11110001), (8, 0b11110010), (8, 0b11110011),
    (8, 0b11110100), (16, 0b01000100_11110101), (16, 0b01000100_11110110), (8, 0b11110111),
    (8, 0b11111000), (24, 0b00010010_00110100_11111001), (8, 0b11111010), (8, 0b11111011),
    (8, 0b11111100), (24, 0b00010010_00110100_11111101), (24, 0b00010010_00110100_11111110), (8, 0b11111111)] =
  [
    some (.beq 0xFE), some (.sbcIzy 0x44), some .byteF2, some .byteF3,
    some .byteF4, some (.sbcZpx 0x44), some (.incZpx 0x44), some .byteF7,
    some .sed, some (.sbcAby 0x1234), some .byteFA, some .byteFB,
    some .byteFC, some (.sbcAbx 0x1234), some (.incAbx 0x1234), some .byteFF] := by decide +kernel

/-! ### One step (spec/95_test_vectors.md) -/

/-- S3: `90 FE` at 0x8000. -/
theorem test_relative_target :
    shown (step (sample 0x8000 [0x90, 0xFE])) = some ⟨"BCC $8000", some 0x8000, 0x8002, some "2/3", false⟩ := by
  decide +kernel

/-- S4: `69 FF` at 0xFFFE: the cursor is not wrapped. -/
theorem test_no_flag :
    shown (step (sample 0xFFFE [0x69, 0xFF])) = some ⟨"ADC #$FF", none, 0x10000, some "2", false⟩ := by decide +kernel

/-- S5: `BD FF 02` at 0x0400. -/
theorem test_one_flag :
    shown (step (sample 0x0400 [0xBD, 0xFF, 0x02])) = some ⟨"LDA $02FF,X", some 0x02FF, 0x0403, some "4/5", false⟩ := by
  decide +kernel

/-- S6: `F0 02` at 0x80FD, and `F0 02` at 0x8000. -/
theorem test_both_flags :
    [step (sample 0x80FD [0xF0, 0x02]),
      step (sample 0x8000 [0xF0, 0x02])].map shown =
    [some ⟨"BEQ $8101", some 0x8101, 0x80FF, some "3/4", false⟩,
      some ⟨"BEQ $8004", some 0x8004, 0x8002, some "2/3", false⟩] := by
  decide +kernel

/-- S7: `02 A9 00` at 0x1000. -/
theorem test_undefined :
    shown (step (sample 0x1000 [0x02, 0xA9, 0x00])) = some ⟨".byte $02", none, 0x1001, none, true⟩ := by decide +kernel

/-- S9: the page test of the prose. -/
theorem test_page : crosses 0x80FF 0x8100 = true ∧ crosses 0x8100 0x81FF = false ∧ crosses 0x0000 0xFFFF = true := by
  decide

/-- Section 2.2: low byte first in memory, high byte first in text; four digits kept; the comma inside or outside. -/
theorem test_operands :
    [step (sample 0 [0xAD, 0xCD, 0xAB]),
      step (sample 0 [0xAD, 0x12, 0x00]),
      step (sample 0 [0xA1, 0x0F]),
      step (sample 0 [0xB1, 0x0F]),
      step (sample 0 [0x0A]),
      step (sample 0 [0x6C, 0xFF, 0x02])].map shown =
    [some ⟨"LDA $ABCD", some 0xABCD, 3, some "4", false⟩,
      some ⟨"LDA $0012", some 0x0012, 3, some "4", false⟩,
      some ⟨"LDA ($0F,X)", none, 2, some "6", false⟩,
      some ⟨"LDA ($0F),Y", none, 2, some "5/6", false⟩,
      some ⟨"ASL A", none, 1, some "2", false⟩,
      some ⟨"JMP ($02FF)", some 0x02FF, 3, some "5", false⟩] := by
  decide +kernel

/-- Section 2.3: a displacement of 0x80 wraps below zero; `after` wraps while the cursor does not. -/
theorem test_branch_wraps :
    [step (sample 0 [0xD0, 0x80]),
      step (sample 0xFFFE [0xD0, 0x00])].map shown =
    [some ⟨"BNE $FF82", some 0xFF82, 2, some "3/4", false⟩,
      some ⟨"BNE $0000", some 0, 0x10000, some "2/3", false⟩] := by
  decide +kernel

/-- Section 2.4, the synthetic rows: BranchTakenPenalty alone; both flags with Absolute at 0x1000, resolved 0x4400; both
flags without a resolved value; a two-digit count. -/
theorem test_annotate_synthetic :
    annotate ⟨.name "XXX", .zeroPage, 2, ⟨false, true⟩, true⟩ 0x1000 none = .pair 2 3 ∧
    annotate ⟨.name "XXX", .absolute, 4, ⟨true, true⟩, true⟩ 0x1000 (some 0x4400) = .pair 5 6 ∧
    annotate ⟨.name "XXX", .immediate, 2, ⟨true, true⟩, true⟩ 0x1000 none = .pair 2 3 ∧
    cyclesText (annotate ⟨.name "XXX", .immediate, 12, ⟨false, false⟩, true⟩ 0x1000 none) = "12" := by decide +kernel

/-- Section 2.5: the last byte of a full image; both operand bytes are padding and the cursor is 65538. -/
theorem test_end_of_space :
    shown (step (sample 0xFFFF [0xAD])) = some ⟨"LDA $0000", some 0, 65538, some "4", false⟩ := by decide +kernel

/-- Section 2.5: the image `A9 01 8D` of three bytes; offset 2 reads the padding, offset 3 is refused. -/
theorem test_short_image :
    (State.reset.loadImage [0xA9, 0x01, 0x8D]).bind
        (fun s => (s.beginRun 2 3 false).bind (fun s => shown (step s))) =
      some ⟨"STA $0000", some 0, 5, none, false⟩ := by decide +kernel

theorem test_short_image_refused :
    (State.reset.loadImage [0xA9, 0x01, 0x8D]).bind
        (fun s => refusalOf (step { s with offset := 3, stop := 4 })) = some .bufferBound := by decide +kernel

/-- Rule R30: with more padding than two bytes (here three) the call at offset `L` is within the contract; it decodes a
padding byte, BRK (rule R167). -/
theorem test_more_padding :
    (State.reset.loadImage [0xA9, 0x01, 0x8D]).bind
        (fun s => shown (step { s.morePadding 1 with offset := 3, stop := 4 })) =
      some ⟨"BRK", none, 4, none, false⟩ := by decide +kernel

/-- Section 2.6: an undefined byte in operand position is an operand. -/
theorem test_undefined_operand :
    shown (step (sample 0 [0xA9, 0x02])) = some ⟨"LDA #$02", none, 2, some "2", false⟩ := by decide +kernel

/-- Program P6: `classify` of a pinned byte (rule R70), with no buffer at all. -/
theorem test_classify :
    (nextOf (step (({ State.reset with bufLen := 0 } : State).requestClassify 0xBD))).bind (·.entry) =
      some ⟨.name "LDA", .absoluteIndexedX, 4, ⟨true, false⟩, true⟩ := by decide +kernel

/-- The host's interface: a word placed by `withFetchWord` is the first instruction after reset. -/
theorem test_placed_word :
    (shown (step (State.reset.withFetchWord 16 0x10A9))).map (·.text) = some "LDA #$10" ∧
    (shown (step (State.reset.withFetchWord 8 0x02))).map (·.text) = some ".byte $02" := by decide +kernel

/-! ### Witnesses: a state and operands that meet the hypotheses of each statement -/

/-- The default table is well formed. -/
theorem default_wellformed : RomWellformed defaultOptab := by unfold RomWellformed; decide +kernel

/-- A sample meets the run invariant. -/
theorem sample_inv {o : Nat} {bytes : List Byte} (ho : o < 65536)
    (hb : ((Memory.writeList [] o bytes).all fun c => decide (c.1 < 65536)) = true) : RunInv (sample o bytes) where
  rom := default_wellformed
  buffer := ⟨by show 1 ≤ 65536; omega, by show 65536 ≤ 65536; omega, by show 65536 + 2 ≤ 65538; omega,
    Memory.writeList_wf bytes o rfl, by simpa [sample, State.reset, Config.addrBound] using hb⟩
  bounds := by
    refine ⟨?_, ?_, ?_, Nat.le_refl _⟩ <;> simp only [sample, State.reset, BitVec.toNat_ofNat, Config.addrBound] <;> omega
  cursor_le := by simp only [sample, BitVec.toNat_ofNat]; omega
  sweep := rfl
  sound := by intro d hd; exact absurd hd List.not_mem_nil
  outputs := fun h => absurd rfl h

/-- DecodedBytesAreItsEncoding. -/
theorem witness_DecodedBytesAreItsEncoding : decode [0xA9, 0x10, 0xFF] = .ok (.ldaImm 0x10, [0xFF]) := rfl

/-- DecodeRejectsOnlyShortInput: one byte too few, and just enough. -/
theorem witness_DecodeRejectsOnlyShortInput :
    ([0x00] : List Byte).length < (defaultOptab.get 0xAD).operandWidth ∧
    (defaultOptab.get 0xAD).operandWidth ≤ ([0x00, 0x00] : List Byte).length := by decide +kernel

/-- ClassifyAnswersTheRecord. -/
theorem witness_ClassifyAnswersTheRecord : (State.reset.requestClassify 0x02).opcodeByte = some 0x02 := rfl

/-- UndefinedBytesOfTheTable and PackedCodes: an invalid byte and a valid one; the first and the last name. -/
theorem witness_table :
    (defaultOptab.get 0x02).valid = false ∧ (defaultOptab.get 0x69).valid = true ∧ "ADC" ∈ Spec.mnemonics ∧
    "TYA" ∈ Spec.mnemonics := by
  decide +kernel

/-- StepRunsDecodedInstruction, at the top of the address space. -/
theorem witness_StepRunsDecodedInstruction :
    (sample 0xFFFF [0xAD]).opcodeByte = none ∧ (sample 0xFFFF [0xAD]).offset < (sample 0xFFFF [0xAD]).stop ∧
    (sample 0xFFFF [0xAD]).contract = true ∧
    decode (sample 0xFFFF [0xAD]).fetchBytes = .ok (.ldaAbs 0x0000, []) :=
  ⟨rfl, by decide +kernel, by decide +kernel, rfl⟩

/-- StepIsIdleAtTheStopBound: at the bound, and two beyond it. -/
theorem witness_StepIsIdleAtTheStopBound :
    State.reset.opcodeByte = none ∧ State.reset.stop.toNat ≤ State.reset.offset.toNat ∧
    ({ State.reset with offset := 2 } : State).stop.toNat ≤ ({ State.reset with offset := 2 } : State).offset.toNat := by
  decide +kernel

/-- A call outside the contract: the buffer is one byte short. -/
def brokenCall : State := { sample 0 [0xEA] with bufLen := 2 }

/-- StepStopsExactlyOutsideTheContract: the premise; a step that is safe for each of the three reasons; one that is
not, at the boundary of the buffer; and the boundary itself. -/
theorem witness_StepStopsExactlyOutsideTheContract :
    RomWellformed brokenCall.optab ∧ step brokenCall = .refused .bufferBound ∧ ¬ StepSafe brokenCall ∧
    StepSafe (sample 0xFFFF [0xAD]) ∧ StepSafe State.reset ∧ StepSafe (brokenCall.requestClassify 0) ∧
    ({ brokenCall with bufLen := 3 } : State).contract = true ∧ ({ brokenCall with offset := 65536 } : State).contract = false := by
  have h : step brokenCall = .refused .bufferBound := refused_of (by decide +kernel)
  refine ⟨default_wellformed, h, ?_, next_of_isSome (by decide +kernel), next_of_isSome (by decide +kernel),
    next_of_isSome (by decide +kernel), by decide +kernel, by decide +kernel⟩
  rintro ⟨t, ht⟩; rw [h] at ht; cases ht

/-- StepRefinesDecodePseudocode, DecodeIsIdempotent and EveryOffsetDecodes. -/
theorem witness_call : RomWellformed (sample 0xFFFF [0xAD]).optab ∧ (sample 0xFFFF [0xAD]).opcodeByte = none ∧
    (sample 0xFFFF [0xAD]).offset < (sample 0xFFFF [0xAD]).stop ∧ (sample 0xFFFF [0xAD]).contract = true :=
  ⟨default_wellformed, rfl, by decide +kernel, by decide +kernel⟩

/-- EveryOffsetDecodes, its inner case: both operand bytes of that call lie in the padding. -/
theorem witness_padding_operand :
    BufferOk (sample 0xFFFF [0xAD]) ∧ (sample 0xFFFF [0xAD]).imageLen ≤ (sample 0xFFFF [0xAD]).offset.toNat + 1 + 0 ∧
    ∃ t d, step (sample 0xFFFF [0xAD]) = .next t ∧ t.record = some d ∧ (d.operand == [0, 0]) = true :=
  ⟨(sample_inv (by omega) (by decide +kernel)).buffer, by decide +kernel, line_of (p := fun _ d => d.operand == [0, 0])
    (by decide +kernel)⟩

/-- A ROM that marks 0xEA valid without a name: premise ROM_WELLFORMED is broken at one byte. -/
def namelessRom : Optab := romWith 0xEA ⟨.illegal, .implied, 2, ⟨false, false⟩, true⟩

/-- EveryInstructionCompletes (a valid and an invalid opcode) and InstructionsStopOnlyByName (each of its three
cases). -/
theorem witness_instruction_completes :
    ((sample 0 []).contract = true ∧ Instr.entryNamed (sample 0 []).optab (.ldaImm 1) = true ∧
      Instr.entryNamed (sample 0 []).optab .byte02 = true ∧ brokenCall.contract = false) ∧
    exec .nop brokenCall = .refused .bufferBound ∧
    exec .nop { sample 0 [] with optab := namelessRom } = .refused .romIllFormed ∧
    ∃ t, exec .nop (sample 0 []) = .next t :=
  ⟨by decide +kernel, refused_of (by decide +kernel), refused_of (by decide +kernel), next_of_isSome (by decide +kernel)⟩

/-- PlacedWordRunsNext, from reset and from the end of a run at the top of the address space. -/
theorem witness_PlacedWordRunsNext :
    State.reset.mem.wf = true ∧ decodeTableWord 16 0x10A9 = some (.ldaImm 0x10) ∧
    ({ State.reset with offset := 65538 } : State).mem.wf = true := by decide +kernel

/-- LoadStoreLines to UndefinedOpcodeLines, the lines of each family: the lowest and the highest offset. -/
theorem witness_lines :
    RomDefault (sample 0 []).optab ∧ RomDefault (sample 65535 []).optab ∧
    (sample 0 []).contract = true ∧ (sample 65535 []).contract = true ∧ (Instr.byte02, 0x02) ∈ Spec.undefinedRows ∧
    (Instr.byteFF, 0xFF) ∈ Spec.undefinedRows :=
  ⟨rfl, rfl, by decide +kernel⟩

/-- InstructionFrame and StepFrame: an instruction, a turn of the loop and a `classify`. -/
theorem witness_frames :
    (∃ t, exec (.jsrAbs 0x4400) (sample 0 []) = .next t) ∧ (∃ t, step (sample 0 []) = .next t) ∧
    (sample 0 []).opcodeByte = none ∧ ((sample 0 []).requestClassify 7).opcodeByte ≠ none ∧
    ∃ t, step ((sample 0 []).requestClassify 7) = .next t :=
  ⟨next_of_isSome (by decide +kernel), next_of_isSome (by decide +kernel), rfl, by decide +kernel,
    next_of_isSome (by decide +kernel)⟩

/-- StepKeepsRunInvariant and RunReachesTheStopBound: a state with a call still to make, at the top. -/
theorem witness_run :
    RunInv (sample 0xFFFF [0xAD]) ∧ (sample 0xFFFF [0xAD]).opcodeByte = none ∧
    ∃ t, step (sample 0xFFFF [0xAD]) = .next t :=
  ⟨sample_inv (by omega) (by decide +kernel), rfl, next_of_isSome (by decide +kernel)⟩

/-- LoadedRunMeetsRunInvariant: an image of one byte, and bounds at both ends of their range. -/
theorem witness_LoadedRunMeetsRunInvariant :
    RomWellformed State.reset.optab ∧ (∃ t, State.reset.loadImage [0xEA] = some t) ∧
    State.reset.loadImage [] = none ∧
    (0 : Cursor).toNat < ([0xEA] : List Byte).length ∧ (0 : Cursor).toNat ≤ (1 : Cursor).toNat ∧
    (1 : Cursor).toNat ≤ ([0xEA] : List Byte).length :=
  ⟨default_wellformed, ⟨_, rfl⟩, rfl, by decide, by decide, by decide⟩

/-- WrittenByteIsSeen: the last byte of the image can be written, the first of the padding cannot. -/
theorem witness_WrittenByteIsSeen :
    BufferOk (sample 0xFFFF [0xAD]) ∧ (∃ t, (sample 0xFFFF [0xAD]).writeByte 65535 0x00 = some t) ∧
    (sample 0xFFFF [0xAD]).writeByte 65536 0x01 = none ∧ (sample 0xFFFF [0xAD]).offset.toNat + 0 = 65535 :=
  ⟨(sample_inv (by omega) (by decide +kernel)).buffer, ⟨_, rfl⟩, rfl, by decide +kernel⟩

/-- PaddingReadsZero: the first and the last padding byte, and the first index beyond. -/
theorem witness_PaddingReadsZero :
    BufferOk (sample 0 []) ∧ (sample 0 []).imageLen ≤ 65536 ∧ 65536 < (sample 0 []).bufLen ∧
    65537 < (sample 0 []).bufLen ∧ (sample 0 []).bufLen ≤ 65538 :=
  ⟨(sample_inv (by omega) (by decide +kernel)).buffer, by decide +kernel⟩

/-- DecodeDependsOnItsBytesOnly: two buffers that differ only beyond the one operand byte that 0xA9 takes. -/
theorem witness_DecodeDependsOnItsBytesOnly :
    let s := sample 0 [0xA9, 0x10, 0x01]
    let t := sample 0 [0xA9, 0x10, 0x02]
    (s.mem ≠ t.mem ∧ s.opcodeByte = none ∧ t.opcodeByte = none ∧ s.offset < s.stop ∧ t.offset < t.stop ∧
      t.contract = true ∧ s.offset = t.offset ∧ s.cycleEn = t.cycleEn) ∧
    (s.byteAt 0 = t.byteAt 0 ∧ s.optab.get (s.byteAt 0) = t.optab.get (t.byteAt 0) ∧
      (s.optab.get (s.byteAt 0)).operandWidth = 1 ∧ s.byteAt 1 = t.byteAt 1) ∧
    (∃ u, step s = .next u) ∧ s.mem.read 0 = t.mem.read 0 ∧ s.mem.read 1 = t.mem.read 1 :=
  ⟨by decide +kernel, by decide +kernel, next_of_isSome (by decide +kernel), by decide +kernel⟩

/-- NoHiddenState: two states that differ in everything a hidden state could be kept in. -/
theorem witness_NoHiddenState :
    let s := sample 0 [0xA9, 0x10]
    let s' : State :=
      { s with
        stop := 9, bufLen := 70000, lines := [Spec.undefinedLine undefinedEntry 2 0], nextOffset := some 3,
        entry := some undefinedEntry, invalidMarker := "?" }
    (s.opcodeByte = none ∧ s'.opcodeByte = none ∧ s.offset < s.stop ∧ s'.offset < s'.stop ∧ s.optab = s'.optab ∧
      s.mem = s'.mem ∧ s.offset = s'.offset ∧ s.cycleEn = s'.cycleEn) ∧
    (∃ t, step s = .next t) ∧ ∃ t, step s' = .next t :=
  ⟨by decide +kernel, next_of_isSome (by decide +kernel), next_of_isSome (by decide +kernel)⟩

/-- LengthDependsOnTheOpcodeAlone: one opcode byte at two offsets with different bytes after it; a length of 3 and
one of 1. -/
theorem witness_LengthDependsOnTheOpcodeAlone :
    let s := sample 0 [0xBD, 0x01, 0x02]
    let s' := sample 0xFFFF [0xBD]
    (s.opcodeByte = none ∧ s'.opcodeByte = none ∧ s.offset < s.stop ∧ s'.offset < s'.stop ∧ s.optab = s'.optab ∧
      s.byteAt 0 = s'.byteAt 0 ∧ (s.optab.get 0xBD).valid = true ∧ (s.optab.get 0x02).valid = false) ∧
    (∃ t, step s = .next t) ∧ ∃ t, step s' = .next t :=
  ⟨by decide +kernel, next_of_isSome (by decide +kernel), next_of_isSome (by decide +kernel)⟩

/-- OperandWidthOfEachMode: a valid record, and an invalid one whose `mode` field holds a two-byte mode. -/
theorem witness_OperandWidthOfEachMode :
    (plainEntry "LDA" .absolute 4).valid = true ∧ (⟨.illegal, .absolute, 0, ⟨true, true⟩, false⟩ : OpcodeEntry).valid = false :=
  ⟨rfl, rfl⟩

/-- RelativeTargetIsTheSignedSum, at its boundary: offset 0xFFFE with the least and the greatest displacement. -/
theorem witness_RelativeTargetIsTheSignedSum :
    relativeTarget 0xFFFE 0x80 = 0xFF80 ∧ relativeTarget 0xFFFE 0x7F = 0x007F ∧
    (relativeTarget 0xFFFE 0x80 = relativeTarget 0xFFFE 0x80) := by decide

/-- ResolvedValueOfEachMode: a Relative line and a line with a two-byte operand. -/
theorem witness_ResolvedValueOfEachMode :
    (∃ t d, exec (.bcc 0xFE) (sample 0x8000 []) = .next t ∧ t.record = some d ∧
      (!d.invalid && d.mode == .relative) = true) ∧
    ∃ t d, exec (.jmpInd 0x10FF) (sample 0x8000 []) = .next t ∧ t.record = some d ∧
      (!d.invalid && d.mode.width == 2) = true :=
  ⟨line_of (p := fun _ d => !d.invalid && d.mode == .relative) (by decide +kernel),
    line_of (p := fun _ d => !d.invalid && d.mode.width == 2) (by decide +kernel)⟩

/-- HexIsFixedWidthAndFaithful: the boundary values. -/
theorem witness_HexIsFixedWidthAndFaithful :
    hex2 0x00 = "00" ∧ hex2 0xFF = "FF" ∧ hex4 0x0012 = "0012" ∧ hex4 0xFFFF = "FFFF" ∧ 'F' ∈ (hex4 0xFFFF).toList := by
  decide +kernel

/-- PrintedTextDeterminesInstruction: the text is met (by the instruction itself); a zero-page and an absolute form of
one number differ in it. -/
theorem witness_PrintedTextDeterminesInstruction :
    RomDefault (sample 0 []).optab ∧
    (∃ t d, exec (.ldaZp 0x12) (sample 0 []) = .next t ∧ t.record = some d ∧ (d.text == "LDA $12") = true) ∧
    ∃ t d, exec (.ldaAbs 0x0012) (sample 0 []) = .next t ∧ t.record = some d ∧ (d.text == "LDA $0012") = true :=
  ⟨rfl, line_of (p := fun _ d => d.text == "LDA $12") (by decide +kernel),
    line_of (p := fun _ d => d.text == "LDA $0012") (by decide +kernel)⟩

/-- TextLengthBound: the longest text (11) and an undefined byte (9). -/
theorem witness_TextLengthBound :
    RomWellformed (sample 0 []).optab ∧
    (∃ t d, exec (.jmpInd 0x4400) (sample 0 []) = .next t ∧ t.record = some d ∧ (d.text.length == 11) = true) ∧
    ∃ t d, exec .byteFF (sample 0 []) = .next t ∧ t.record = some d ∧ (d.invalid && d.text.length == 9) = true :=
  ⟨default_wellformed, line_of (p := fun _ d => d.text.length == 11) (by decide +kernel),
    line_of (p := fun _ d => d.invalid && d.text.length == 9) (by decide +kernel)⟩

/-- OnlyRelativeDependsOnTheOffset: one instruction at offsets 0 and 65535. -/
theorem witness_OnlyRelativeDependsOnTheOffset :
    (Instr.staAbx 0x0300).wellFormedIn (sample 0 []).optab = true ∧
    ((sample 0 []).optab.get (Instr.staAbx 0x0300).opcode).mode ≠ .relative ∧
    (∃ t d, exec (.staAbx 0x0300) (sample 0 []) = .next t ∧ t.record = some d ∧ (d.text == "STA $0300,X") = true) ∧
    (sample 0 []).setOffset 65535 = some { sample 0 [] with offset := 65535 } ∧
    ∃ t d, exec (.staAbx 0x0300) { sample 0 [] with offset := 65535 } = .next t ∧ t.record = some d ∧
      (d.text == "STA $0300,X") = true :=
  ⟨by decide +kernel, by decide +kernel, line_of (p := fun _ d => d.text == "STA $0300,X") (by decide +kernel),
    rfl, line_of (p := fun _ d => d.text == "STA $0300,X") (by decide +kernel)⟩

/-- UndefinedOpcodeIsNotFatal, in the last byte of the image. -/
theorem witness_UndefinedOpcodeIsNotFatal :
    let s := sample 0xFFFF [0x0B]
    (s.opcodeByte = none ∧ s.offset < s.stop ∧ s.contract = true ∧ (s.optab.get (s.byteAt 0)).valid = false) ∧
    RunInv s :=
  ⟨by decide +kernel, sample_inv (by omega) (by decide +kernel)⟩

/-- ErrorReportedExactlyForInvalidBytes and AnnotationOnlyWhenEnabled: an invalid line with its marker, and a valid
one with a pair. -/
theorem witness_error_and_annotation :
    (∃ t d, exec .byte02 (sample 0 []) = .next t ∧ t.record = some d ∧
      (d.invalid && d.errorCode == 1 && t.markerText d == some "INVALID OPCODE !!!" && d.cycles == none) = true) ∧
    ∃ t d, exec (.ldaAbx 0x0200) (sample 0 []) = .next t ∧ t.record = some d ∧
      (!d.invalid && d.errorCode == 0 && t.markerText d == none && d.cycles == some (.pair 4 5)) = true :=
  ⟨line_of (p := fun t d => d.invalid && d.errorCode == 1 && t.markerText d == some "INVALID OPCODE !!!" && d.cycles == none)
      (by decide +kernel),
    line_of (p := fun t d => !d.invalid && d.errorCode == 0 && t.markerText d == none && d.cycles == some (.pair 4 5))
      (by decide +kernel)⟩

/-- The pinned premise. -/
theorem default_pinned : RomPinned defaultOptab := by unfold RomPinned; decide +kernel

/-- A ROM whose 0xEA has both flags and no resolved value (decision D20). -/
def bothFlagsRom : Optab := romWith 0xEA ⟨.name "NOP", .implied, 2, ⟨true, true⟩, true⟩

/-- NoFlagAnnotation, OneFlagAnnotation (each flag alone) and BothFlagsAnnotation (pages that differ, pages that
are equal, no resolved value). -/
theorem witness_annotations :
    RomPinned (sample 0x80FD []).optab ∧ ((sample 0x80FD []).contract = true ∧ (sample 0x80FD []).cycleEn = true) ∧
    ((defaultOptab.get 0x69).flags = ⟨false, false⟩ ∧ (defaultOptab.get 0xBD).flags = ⟨true, false⟩ ∧
    ((romWith 0xEA ⟨.name "NOP", .implied, 2, ⟨false, true⟩, true⟩).get 0xEA).flags = ⟨false, true⟩ ∧
    (defaultOptab.get 0xF0).flags = ⟨true, true⟩ ∧ Spec.after 0x80FD 1 / 256 ≠ Spec.target 0x80FD 0x02 / 256 ∧
    Spec.after 0x8000 1 / 256 = Spec.target 0x8000 0x02 / 256) ∧
    ∃ t d, exec .nop { sample 0 [] with optab := bothFlagsRom } = .next t ∧ t.record = some d ∧
      (d.resolved == none && d.cycles == some (.pair 2 3)) = true :=
  ⟨default_pinned, by decide +kernel, by decide +kernel,
    line_of (p := fun _ d => d.resolved == none && d.cycles == some (.pair 2 3)) (by decide +kernel)⟩

/-- PageTestComparesHighBytes and DecimalIsFaithful: boundary values. -/
theorem witness_page_and_decimal :
    crosses 0x00FF 0x0100 = true ∧ crosses 0x0100 0x01FF = false ∧ dec 0 = "0" ∧ dec 9 = "9" ∧ dec 10 = "10" := by
  decide +kernel

/-- CallerMovesKeepCallsLegal: a legal state, a move from it, and each guard at its bound (an offset of 65535 and of
65536; a stop of `L` and of `L + 1`; a start of `L - 1` and of `L`; an image of more than 65536 bytes). -/
theorem witness_CallerMovesKeepCallsLegal :
    CallerOk (sample 0 []) ∧ ((CallerMove.writeByte 0xFFFF 7).apply (sample 0 [])).isSome = true ∧
    (CallerMove.writeByte 0x10000 7).apply (sample 0 []) = none ∧
    (State.reset.setOffset 65535).isSome = true ∧ State.reset.setOffset 65536 = none ∧
    (State.reset.setStop 65536).isSome = true ∧ State.reset.setStop 65537 = none ∧
    (State.reset.beginRun 65535 65536 true).isSome = true ∧ State.reset.beginRun 65536 65536 true = none ∧
    State.beginRun { State.reset with imageLen := 65537 } 0 0 true = none ∧
    State.setStop { State.reset with start := 2 } 1 = none :=
  have h : RunInv (sample 0 []) := sample_inv (by omega) (by decide +kernel)
  ⟨⟨h.rom, h.buffer, h.bounds⟩, by decide +kernel⟩

end Sys2Proof.Tests
end

section
/-! PROOFS. Family 10_state: what a `decode` call answers is a function of the ROM, the buffer's bytes, the offset and the
annotation switch (rule R24). -/

namespace Sys2Proof.Machine

/-- `decode` at an offset reads nothing of the state but the ROM, the buffer's bytes and the annotation switch. -/
theorem decodeAt_congr {s s' : State} (hrom : s.optab = s'.optab) (hmem : ∀ a, s.mem.read a = s'.mem.read a)
    (hcycle : s.cycleEn = s'.cycleEn) (o : Word) : s.decodeAt o = s'.decodeAt o := by
  simp only [State.decodeAt, hrom, hmem, hcycle]

/-- Where the loop makes a call and the call returns, its two outputs are the two answers of `decodeAt` at the cursor. -/
theorem step_outputs {s t : State} (ho : s.opcodeByte = none) (hs : s.offset < s.stop) (h : step s = .next t) :
    ∃ d n, s.decodeAt s.offsetWord = some (d, n) ∧ t.record = some d ∧ t.nextOffset = some n := by
  obtain ⟨b, hb, -⟩ | ⟨-, hidle, -⟩ | ⟨-, -, -, d, n, hd, rfl⟩ := step_cases h
  · rw [ho] at hb; cases hb
  · exact absurd hs hidle
  · exact ⟨d, n, hd, State.deliver_record s d n, State.deliver_nextOffset s d n⟩

/-- Settles O35: both calls deliver what `decodeAt` gives at the cursor, and that is the same in the two states. -/
theorem noHiddenState : Obligations.NoHiddenState := by
  intro s s' t t' ho ho' hs hs' hrom hmem hoff hcycle h h'
  obtain ⟨d, n, hd, hrec, hnext⟩ := step_outputs ho hs h
  obtain ⟨d', n', hd', hrec', hnext'⟩ := step_outputs ho' hs' h'
  have hword : s.offsetWord = s'.offsetWord := congrArg (BitVec.setWidth 16) hoff
  have hsame : some (d, n) = some (d', n') :=
    calc some (d, n) = s.decodeAt s.offsetWord := hd.symm
      _ = s'.decodeAt s.offsetWord := decodeAt_congr hrom hmem hcycle _
      _ = s'.decodeAt s'.offsetWord := by rw [hword]
      _ = some (d', n') := hd'
  cases hsame
  exact ⟨hrec.trans hrec'.symm, hnext.trans hnext'.symm⟩

end Sys2Proof.Machine
end

section
/-! PROOFS. Family 20_memory: the operand bytes of a call are the buffer's next bytes, padding zeros beyond the image
(rules R30, R33). -/

namespace Sys2Proof.Machine

/-- Contents that list nothing at or beyond an index read there as the unlisted byte. -/
theorem Memory.read_of_cells_below {m : Memory} {len a : Nat} (hm : ∀ c ∈ m, c.1 < len) (ha : len ≤ a) :
    m.read a = Config.unlistedByte := by
  induction m with
  | nil => rfl
  | cons c rest ih =>
    obtain ⟨hc, hrest⟩ := List.forall_mem_cons.1 hm
    have hne : c.1 ≠ a := (hc.trans_le ha).ne
    calc Memory.read (c :: rest) a = Memory.read rest a := if_neg hne
      _ = Config.unlistedByte := ih hrest

/-- Beyond the image a call sees padding zeros. -/
theorem byteAt_padding {s : State} (hb : BufferOk s) {k : Nat} (hk : s.imageLen ≤ s.offset.toNat + k) :
    s.byteAt k = 0 :=
  Memory.read_of_cells_below hb.in_image hk

/-- The operand of whatever record `decodeEntry` answers: the bytes after the opcode, as many as its entry takes. -/
theorem decodeEntry_operand {e : OpcodeEntry} {op b0 b1 : Byte} {o : Word} {c : Bool} {d : DecodedInstruction}
    {n : Cursor} (h : decodeEntry e op b0 b1 o c = some (d, n)) : d.operand = [b0, b1].take e.operandWidth := by
  obtain ⟨hv, rfl, -⟩ | ⟨m, hv, -, rfl, -⟩ := decodeEntry_cases h
  · simp [undefinedRecord, OpcodeEntry.operandWidth, hv]
  · simp [validRecord, operandBytes, OpcodeEntry.operandWidth, hv]

/-- Where a record's operand has a byte, it is the one of the two bytes after the opcode at that place. -/
theorem decodeEntry_operand_getElem? {e : OpcodeEntry} {op b0 b1 : Byte} {o : Word} {c : Bool} {d : DecodedInstruction}
    {n : Cursor} (h : decodeEntry e op b0 b1 o c = some (d, n)) {k : Nat} (hk : k < d.operand.length) :
    d.operand[k]? = [b0, b1][k]? := by
  rw [decodeEntry_operand h, List.length_take] at hk
  rw [decodeEntry_operand h, List.getElem?_take_of_lt (lt_min_iff.1 hk).1]

/-- Settles O37: the record at the cursor is named, so the call delivers; its operand is a prefix of the two bytes after
the opcode, and the cursor advances by its length. -/
theorem everyOffsetDecodes : Obligations.EveryOffsetDecodes := by
  intro s hrom ho hs hc
  obtain ⟨d, n, hd⟩ := decodeEntry_of_named (named_of_wellformed (hrom (s.byteAt 0))) (s.byteAt 0) (s.byteAt 1)
    (s.byteAt 2) s.offsetWord s.cycleEn
  obtain ⟨hoffset, -, -, -, hlen, rfl⟩ := decodeEntry_fields hd
  have hwidth := operandWidth_le_two (s.optab.get (s.byteAt 0))
  have hnext : (advance s.offsetWord (s.optab.get (s.byteAt 0)).operandWidth).toNat =
      s.offset.toNat + 1 + d.operand.length := by
    rw [advance_toNat _ hwidth, offsetWord_toNat hc, hlen]
  refine ⟨_, d, step_delivers ho hs hc ((decodeAt_offsetWord hc).trans hd), rfl, hoffset ▸ offsetWord_toNat hc,
    hlen ▸ hwidth, hnext, fun k hk => ?_⟩
  have hbyte : d.operand[k]? = some (s.byteAt (1 + k)) := by
    rw [decodeEntry_operand_getElem? hd hk]
    match k, (hk.trans_le (hlen ▸ hwidth) : k < 2) with
    | 0, _ => rfl
    | 1, _ => rfl
  exact ⟨hbyte, fun hb hpad => hbyte.trans (congrArg some (byteAt_padding hb (by omega)))⟩

end Sys2Proof.Machine
end

section
/-! PROOFS. Family 30_encoding: the operand width of each mode and the length of an instruction (rules R51, R52). -/

namespace Sys2Proof.Machine

/-! ### The operand width of a mode and of a record -/

theorem width_eq_zero_iff (m : Mode) : m.width = 0 ↔ m ∈ [Mode.implied, .accumulator] := by
  cases m <;> decide

theorem width_eq_one_iff (m : Mode) :
    m.width = 1 ↔ m ∈ [Mode.immediate, .zeroPage, .zeroPageIndexedX, .zeroPageIndexedY, .indexedIndirectX,
      .indirectIndexedY, .relative] := by
  cases m <;> decide

theorem width_eq_two_iff (m : Mode) :
    m.width = 2 ↔ m ∈ [Mode.absolute, .indirectAbsolute, .absoluteIndexedX, .absoluteIndexedY] := by
  cases m <;> decide

@[simp] theorem operandWidth_of_valid {e : OpcodeEntry} (h : e.valid = true) : e.operandWidth = e.mode.width :=
  if_pos h

@[simp] theorem operandWidth_of_invalid {e : OpcodeEntry} (h : e.valid = false) : e.operandWidth = 0 :=
  if_neg (h ▸ Bool.false_ne_true)

/-- The length of an instruction, opcode byte included, is the one rule R51 gives its record. -/
theorem one_add_operandWidth (e : OpcodeEntry) :
    1 + e.operandWidth = if e.valid = true then 1 + e.mode.width else 1 := by
  split
  next h => rw [operandWidth_of_valid h]
  next h => rw [operandWidth_of_invalid (Bool.eq_false_of_not_eq_true h)]

/-! ### The cursor after a call -/

/-- A call the loop makes that returns was within the contract, and moved the cursor past the opcode byte and the operand
bytes its record takes. -/
theorem step_advances {s t : State} (ho : s.opcodeByte = none) (hs : s.offset < s.stop) (h : step s = .next t) :
    s.contract = true ∧ t.offset.toNat = s.offset.toNat + (1 + (s.optab.get (s.byteAt 0)).operandWidth) := by
  rw [step_call ho hs, call_eq_next_iff] at h
  obtain ⟨hc, d, n, hd, rfl⟩ := h
  obtain ⟨-, -, -, -, -, rfl⟩ := decodeEntry_fields hd
  refine ⟨hc, ?_⟩
  rw [State.deliver_offset, advance_toNat _ (operandWidth_le_two _), offsetWord_toNat hc, Nat.add_assoc]

/-- Settles O38: the cursor moves by 1 plus the operand width of the opcode byte's record, so two calls with one ROM and
one opcode byte move it equally. -/
theorem lengthDependsOnTheOpcodeAlone : Obligations.LengthDependsOnTheOpcodeAlone := by
  refine ⟨fun s t ho hs h => ?_, fun s s' t t' ho ho' hs hs' hrom hop h h' => ?_⟩
  · obtain ⟨hc, ht⟩ := step_advances ho hs h
    exact ⟨memRead_eq_byteAt hc (Nat.zero_le 2), ht.trans (congrArg _ (one_add_operandWidth _))⟩
  · obtain ⟨-, ht⟩ := step_advances ho hs h
    obtain ⟨-, ht'⟩ := step_advances ho' hs' h'
    rw [ht, ht', hrom, hop, Nat.add_sub_cancel_left, Nat.add_sub_cancel_left]

/-- Settles O39: the widths mode by mode, and the record of an invalid opcode, which takes no operand byte. -/
theorem operandWidthOfEachMode : Obligations.OperandWidthOfEachMode :=
  ⟨width_eq_zero_iff, width_eq_one_iff, width_eq_two_iff, fun _ => operandWidth_of_valid,
    fun _ => operandWidth_of_invalid, fun e op b0 b1 o c h =>
      ⟨undefinedRecord e op o, advance o 0, decodeEntry_invalid h op b0 b1 o c, rfl, advance_toNat o (Nat.zero_le 2)⟩⟩

end Sys2Proof.Machine
end

section
/-! PROOFS. Family 40_classify_decode: a `decode` call repeated at the same offset of the same buffer answers the same
(rule R75). -/

namespace Sys2Proof.Machine

/-- Under a well-formed ROM `decode` answers at every offset: the record of every opcode byte is named. -/
theorem decodeAt_of_wellformed {s : State} (hrom : RomWellformed s.optab) (o : Word) :
    ∃ d n, s.decodeAt o = some (d, n) :=
  decodeEntry_of_named (named_of_wellformed (hrom _)) _ _ _ o s.cycleEn

/-- Settles O36: taking the results of the first call and moving the cursor back changes nothing that `decodeAt` reads, so
the second call delivers the same record and `next_offset`. -/
theorem decodeIsIdempotent : Obligations.DecodeIsIdempotent := by
  intro s hrom ho hs hc
  obtain ⟨d, n, hd⟩ := decodeAt_of_wellformed hrom s.offsetWord
  have hback : (s.deliver d n).setOffset s.offset = some { s.deliver d n with offset := s.offset } :=
    setOffset_eq_some.2 ⟨Nat.le_of_lt_succ ((contract_iff s).1 hc).1, rfl⟩
  have hagain := step_delivers (s := { s.deliver d n with offset := s.offset }) ho hs hc
    ((decodeAt_congr rfl (fun _ => rfl) rfl s.offsetWord).trans hd)
  exact ⟨_, _, _, step_delivers ho hs hc hd, hback, hagain, rfl, rfl, Option.some_ne_none d⟩

end Sys2Proof.Machine
end

section
/-! PROOFS. Family 60_exceptions: an undefined opcode byte is one ordinary step, and the caller's loop goes on to its stop
bound (rule R191). -/

namespace Sys2Proof.Machine

/-! ### The step at an undefined opcode byte -/

/-- Under the contract the cursor after a call is the one the spec counts on numbers: past the opcode byte and `w` operand
bytes. -/
theorem advance_offsetWord {s : State} (hc : s.contract = true) {w : Nat} (hw : w ≤ 2) :
    advance s.offsetWord w = BitVec.ofNat 17 (s.offset.toNat + (1 + w)) := by
  have hoffset := ((contract_iff s).1 hc).1
  apply BitVec.eq_of_toNat_eq
  rw [advance_toNat _ hw, offsetWord_toNat hc, BitVec.toNat_ofNat, Nat.mod_eq_of_lt (by omega), Nat.add_assoc]

/-- At an undefined opcode byte the call returns the undefined record, and the cursor moves to the next byte. -/
theorem step_undefined {s : State} (ho : s.opcodeByte = none) (hs : s.offset < s.stop) (hc : s.contract = true)
    (hv : (s.optab.get (s.byteAt 0)).valid = false) :
    step s = .next (Spec.returns s
      (undefinedRecord (s.optab.get (s.byteAt 0)) (s.byteAt 0) s.offsetWord) 1) := by
  rw [step_call ho hs, call_next hc (decodeEntry_invalid hv _ _ _ _ _), State.deliver,
    advance_offsetWord hc (Nat.zero_le 2), Spec.returns]

/-! ### The loop up to its stop bound -/

/-- Taking a call's results leaves all that the caller keeps. -/
theorem CallerOk.deliver {s : State} (h : CallerOk s) (d : DecodedInstruction) (n : Cursor) :
    CallerOk (s.deliver d n) where
  rom := h.rom
  buffer := { h.buffer with }
  bounds := { h.bounds with }

/-- Below the stop bound every call is within its contract. -/
theorem CallerOk.contract {s : State} (h : CallerOk s) (hs : s.offset < s.stop) : s.contract = true := by
  have hlt : s.offset.toNat < s.stop.toNat := hs
  have hstop := h.bounds.stop_le
  have himage : s.imageLen ≤ 65536 := h.bounds.image_le
  have hpad : s.imageLen + 2 ≤ s.bufLen := h.buffer.padded
  exact (contract_iff s).2 ⟨by omega, by omega⟩

/-- A turn of the loop below the stop bound completes, keeps all that the caller keeps, and moves the cursor on: whatever
the opcode byte is, undefined ones included. -/
theorem CallerOk.turn {s : State} (h : CallerOk s) (ho : s.opcodeByte = none) (hs : s.offset < s.stop) :
    ∃ t, step s = .next t ∧ CallerOk t ∧ t.opcodeByte = none ∧ t.stop = s.stop ∧
      s.offset.toNat < t.offset.toNat := by
  obtain ⟨d, n, hd⟩ := decodeAt_of_wellformed h.rom s.offsetWord
  have hstep := step_delivers ho hs (h.contract hs) hd
  obtain ⟨-, hmoved⟩ := step_advances ho hs hstep
  exact ⟨_, hstep, h.deliver d n, ho, rfl, by omega⟩

theorem run_succ_of_step {s t : State} (h : step s = .next t) (k : Nat) :
    Host.Core.run Sys2Proof.core (k + 1) s = Host.Core.run Sys2Proof.core k t := by
  have hcore : Sys2Proof.core.step s = .next t := h
  simp only [Host.Core.run, hcore]

/-- The loop ends at its stop bound, by induction on a bound of the bytes still below it. -/
theorem CallerOk.run_reaches_stop {s : State} (h : CallerOk s) (ho : s.opcodeByte = none) {fuel : Nat}
    (hfuel : s.stop.toNat ≤ s.offset.toNat + fuel) :
    ∃ (k : Nat) (t : State), Host.Core.run Sys2Proof.core k s = .next t ∧ s.stop.toNat ≤ t.offset.toNat := by
  induction fuel generalizing s with
  | zero => exact ⟨0, s, rfl, hfuel⟩
  | succ fuel ih =>
    by_cases hs : s.offset < s.stop
    · obtain ⟨t, hstep, ht, hot, hstop, hmoved⟩ := h.turn ho hs
      obtain ⟨k, u, hrun, hu⟩ := ih ht hot (by rw [hstop]; omega)
      exact ⟨k + 1, u, (run_succ_of_step hstep k).trans hrun, hstop ▸ hu⟩
    · exact ⟨0, s, rfl, Nat.le_of_not_lt hs⟩

/-- Settles O46: the step at an undefined byte delivers its record; the invariant of a run includes all that the caller
keeps, so the loop reaches its stop bound. -/
theorem undefinedOpcodeIsNotFatal : Obligations.UndefinedOpcodeIsNotFatal :=
  ⟨fun _ ho hs hc hv =>
    ⟨_, step_undefined ho hs hc hv, rfl, rfl, offsetWord_toNat hc, hex2 _, rfl, hex2_length _⟩,
    fun _ h ho => CallerOk.run_reaches_stop ⟨h.rom, h.buffer, h.bounds⟩ ho (Nat.le_add_left _ _)⟩

end Sys2Proof.Machine
end

section
/-! PROOFS. Family other, 30_encoding.md: encoding and decoding are inverse to each other (rules R50 to R56). -/

namespace Sys2Proof.Machine

/-! ### An instruction is its opcode byte and its operand bytes -/

/-- The instruction that an opcode byte and the operand bytes of its format spell. -/
def instrOf (op : Byte) (operand : List Byte) : Instr := decodeThree op (operand.getD 0 0) (operand.getD 1 0)

/-- The operand bytes an opcode byte takes in the opcode map. -/
def mapWidth (op : Byte) : Nat := (shapeOf op).format.operandBytes

/-- The map holds every constructor at its opcode. -/
theorem instrOf_opcode_operand (i : Instr) : instrOf i.opcode i.operand = i := by
  cases i with
  | ldaAbs w | ldaAby w | ldaAbx w | ldxAbs w | ldxAby w | ldyAbs w | ldyAbx w | staAbs w | staAby w | staAbx w
  | stxAbs w | styAbs w | adcAbs w | adcAby w | adcAbx w | sbcAbs w | sbcAby w | sbcAbx w | andAbs w | andAby w
  | andAbx w | oraAbs w | oraAby w | oraAbx w | eorAbs w | eorAby w | eorAbx w | cmpAbs w | cmpAby w | cmpAbx w
  | cpxAbs w | cpyAbs w | bitAbs w | incAbs w | incAbx w | decAbs w | decAbx w | aslAbs w | aslAbx w | lsrAbs w
  | lsrAbx w | rolAbs w | rolAbx w | rorAbs w | rorAbx w | jmpAbs w | jmpInd w | jsrAbs w =>
    exact congrArg _ (wordOf_low_high w)
  | _ => rfl

theorem instrOf_opcode (op : Byte) (operand : List Byte) : (instrOf op operand).opcode = op :=
  decodeThree_opcode ..

theorem instrOf_operand {op : Byte} {operand : List Byte} (h : operand.length = mapWidth op) :
    (instrOf op operand).operand = operand := by
  rw [instrOf, decodeThree_operand]
  unfold mapWidth at h
  rcases hf : (shapeOf op).format with _ | _ | _ <;> rw [hf] at h
  · exact (List.eq_nil_of_length_eq_zero h).symm
  · obtain ⟨b, rfl⟩ := List.length_eq_one_iff.1 h
    rfl
  · obtain ⟨lo, hi, rfl⟩ := List.length_eq_two.1 h
    rfl

/-- Two instructions with one opcode byte and the same operand bytes are one instruction. -/
theorem instr_ext {i j : Instr} (hop : i.opcode = j.opcode) (hoperand : i.operand = j.operand) : i = j := by
  rw [← instrOf_opcode_operand i, hop, hoperand, instrOf_opcode_operand]

/-- An instruction carries as many operand bytes as the map gives its opcode. -/
theorem operand_length (i : Instr) : i.operand.length = mapWidth i.opcode := by
  have h := decodeThree_operand i.opcode (i.operand.getD 0 0) (i.operand.getD 1 0)
  rw [show decodeThree .. = i from instrOf_opcode_operand i] at h
  rw [h, List.length_take, mapWidth]
  cases (shapeOf i.opcode).format <;> rfl

/-- The default table gives each opcode the operand width of the map. -/
theorem operandWidth_default (op : Byte) : (defaultOptab.get op).operandWidth = mapWidth op := by
  revert op; decide +kernel

theorem romWellformed_default : RomWellformed defaultOptab := by
  unfold RomWellformed; decide +kernel

theorem wellFormed_default (i : Instr) : i.wellFormed = true := by
  have hlength : i.lengthFits defaultOptab = true := by
    rw [Instr.lengthFits, operandWidth_default, operand_length, beq_self_eq_true]
  have hnamed : i.entryNamed defaultOptab = true := named_of_wellformed (romWellformed_default _)
  rw [Instr.wellFormed, Instr.wellFormedIn, hlength, hnamed, Bool.and_self]

/-! ### What decode answers, by the number of bytes after the opcode -/

/-- Too few operand bytes: the decoder stops. -/
theorem decode_of_lt {op : Byte} {rest : List Byte} (h : rest.length < mapWidth op) :
    decode (op :: rest) = .error (.truncated op) := by
  unfold mapWidth at h
  rcases hs : shapeOf op with i | mk | mk <;> rw [hs] at h
  · exact absurd h (Nat.not_lt_zero _)
  · match rest, h with
    | [], _ => simp [decode, hs]
  · match rest, h with
    | [], _ => simp [decode, hs]
    | [_], _ => simp [decode, hs]

/-- Enough operand bytes: the decoder takes those of the format and gives the instruction they spell. -/
theorem decode_of_le {op : Byte} {rest : List Byte} (h : mapWidth op ≤ rest.length) :
    decode (op :: rest) = .ok (instrOf op (rest.take (mapWidth op)), rest.drop (mapWidth op)) := by
  unfold instrOf decodeThree mapWidth
  unfold mapWidth at h
  rcases hs : shapeOf op with i | mk | mk <;> rw [hs] at h
  · simp [decode, hs, Shape.format, Format.operandBytes]
  · match rest, h with
    | b :: rest, _ => simp [decode, hs, Shape.format, Format.operandBytes]
  · match rest, h with
    | lo :: hi :: rest, _ => simp [decode, hs, Shape.format, Format.operandBytes]

/-! ### The statements -/

theorem decode_encode_append (i : Instr) (rest : List Byte) : decode (encode i ++ rest) = .ok (i, rest) := by
  have hle : mapWidth i.opcode ≤ (i.operand ++ rest).length := by
    rw [List.length_append, operand_length]; exact Nat.le_add_right _ _
  rw [encode, List.cons_append, decode_of_le hle, ← operand_length, List.take_left, List.drop_left,
    instrOf_opcode_operand]

/-- Settles O1: every instruction is the one its opcode and operand bytes spell, and `decode` takes exactly these. -/
theorem decodeEncodeRoundTrip : Obligations.DecodeEncodeRoundTrip := fun i rest =>
  ⟨wellFormed_default i, decode_encode_append i rest⟩

/-- Settles O2: `decode` answers only where the operand bytes are there, and splits the bytes after the opcode at the
width of its format. -/
theorem decodedBytesAreItsEncoding : Obligations.DecodedBytesAreItsEncoding := by
  intro bytes i rest h
  rcases bytes with _ | ⟨op, bytes⟩
  · cases h
  · rcases Nat.lt_or_ge bytes.length (mapWidth op) with hlt | hle
    · rw [decode_of_lt hlt] at h; cases h
    · rw [decode_of_le hle] at h; cases h
      rw [encode, instrOf_opcode, instrOf_operand (List.length_take_of_le hle), List.cons_append, List.take_append_drop]

/-- Settles O3: the map takes as many operand bytes as the default table says. -/
theorem decodeRejectsOnlyShortInput : Obligations.DecodeRejectsOnlyShortInput := by
  refine ⟨rfl, fun op rest => ?_⟩
  rw [operandWidth_default]
  exact ⟨decode_of_lt, fun hle => ⟨_, decode_of_le hle, instrOf_opcode ..⟩⟩

/-- Settles O4: the words run through the decoder. -/
theorem writtenWordsDecode : Obligations.WrittenWordsDecode := by
  unfold Obligations.WrittenWordsDecode; decide +kernel

end Sys2Proof.Machine
end

section
/-! PROOFS. Family other, 41_addressing_modes.md and 42_cycle_annotation.md: hexadecimal and decimal text, the Relative
target and the page test are those of the spec on numbers (rules R54, R96, R98, R105, R106, R110). -/

namespace Sys2Proof.Machine

/-! ### Hexadecimal -/

theorem hexDigit_eq_digit (n : BitVec 4) : hexDigit n = Spec.digit n.toNat := by
  revert n; decide +kernel

theorem hexDigit_injective {n m : BitVec 4} (h : hexDigit n = hexDigit m) : n = m := by
  revert n m; decide +kernel

theorem hexDigit_mem (n : BitVec 4) : hexDigit n ∈ "0123456789ABCDEF".toList := by
  revert n; decide +kernel

@[simp] theorem toList_hex2 (v : Byte) :
    (hex2 v).toList = [hexDigit (v.extractLsb' 4 4), hexDigit (v.extractLsb' 0 4)] := by
  simp [hex2]

theorem highNibble_toNat (v : Byte) : (v.extractLsb' 4 4).toNat = v.toNat / 16 := by
  simp [BitVec.extractLsb'_toNat, Nat.shiftRight_eq_div_pow]; omega

theorem lowNibble_toNat (v : Byte) : (v.extractLsb' 0 4).toNat = v.toNat % 16 := by
  simp [BitVec.extractLsb'_toNat]

theorem hex2_eq (v : Byte) : hex2 v = Spec.hex2 v.toNat := by
  rw [hex2, hexDigit_eq_digit, hexDigit_eq_digit, highNibble_toNat, lowNibble_toNat, Spec.hex2]

theorem hex4_eq (w : Word) : hex4 w = Spec.hex4 w.toNat := by
  rw [hex4, hex2_eq, hex2_eq, highByte_toNat, lowByte_toNat, Spec.hex4]

theorem hex2_injective {v v' : Byte} (h : hex2 v = hex2 v') : v = v' := by
  have hlist := congrArg String.toList h
  simp only [toList_hex2, List.cons.injEq, and_true] at hlist
  obtain ⟨hhigh, hlow⟩ := hlist
  have hdiv := congrArg BitVec.toNat (hexDigit_injective hhigh)
  have hmod := congrArg BitVec.toNat (hexDigit_injective hlow)
  rw [highNibble_toNat, highNibble_toNat] at hdiv
  rw [lowNibble_toNat, lowNibble_toNat] at hmod
  exact BitVec.eq_of_toNat_eq (by omega)

theorem hex4_injective {w w' : Word} (h : hex4 w = hex4 w') : w = w' := by
  have hlist := congrArg String.toList h
  simp only [hex4, String.toList_append] at hlist
  obtain ⟨hhigh, hlow⟩ := List.append_inj hlist (by simp)
  rw [← wordOf_low_high w, ← wordOf_low_high w', hex2_injective (String.toList_inj.1 hhigh),
    hex2_injective (String.toList_inj.1 hlow)]

theorem hex4_length (w : Word) : (hex4 w).length = 4 := by
  rw [hex4, String.length_append, hex2_length, hex2_length]

/-- Settles O42: digit by digit. -/
theorem hexIsFixedWidthAndFaithful : Obligations.HexIsFixedWidthAndFaithful := by
  refine ⟨fun v => ⟨hex2_eq v, hex2_length v⟩, fun w => ⟨hex4_eq w, hex4_length w⟩, fun _ _ => hex2_injective,
    fun _ _ => hex4_injective, fun w c hc => ?_⟩
  simp only [hex4, String.toList_append, toList_hex2, List.mem_append, List.mem_cons, List.not_mem_nil, or_false] at hc
  obtain (rfl | rfl) | (rfl | rfl) := hc <;> exact hexDigit_mem _

/-! ### Decimal -/

@[simp] theorem toList_dec (n : Nat) : (dec n).toList = Nat.toDigits 10 n := String.toList_ofList

theorem dec_eq_toString (n : Nat) : dec n = toString n := Nat.toString_eq_ofList_toDigits.symm

/-- A numeral of more than one digit begins as the numeral without its last digit does, so no zero leads. -/
theorem head?_toDigits_ne_zero {n : Nat} (h : n ≠ 0) : (Nat.toDigits 10 n).head? ≠ some '0' := by
  induction n using Nat.strongRecOn with
  | ind n ih =>
    rcases Nat.lt_or_ge n 10 with hlt | hge
    · rw [Nat.toDigits_of_lt_base hlt]
      match n, h, hlt with
      | 1, _, _ | 2, _, _ | 3, _, _ | 4, _, _ | 5, _, _ | 6, _, _ | 7, _, _ | 8, _, _ | 9, _, _ => decide
    · rw [Nat.toDigits_of_base_le (by omega) hge, List.head?_append_of_ne_nil _ Nat.toDigits_ne_nil]
      exact ih (n / 10) (by omega) (by omega)

/-- Settles O53: the numeral is the library's, which is read back digit by digit. -/
theorem decimalIsFaithful : Obligations.DecimalIsFaithful := by
  intro n
  rw [toList_dec]
  refine ⟨?_, fun c hc => Nat.isDigit_of_mem_toDigits (by omega) (by omega) hc, head?_toDigits_ne_zero, ?_⟩
  · have h := Nat.ofDigitChars_ten_toDigits (n := n)
    rw [Nat.ofDigitChars_eq_foldl] at h
    simpa only [Nat.mul_comm 10, show '0'.toNat = 48 from rfl] using h
  · rintro rfl
    decide

/-! ### The Relative target -/

theorem addressAfter_eq (o : Word) (w : Nat) : (addressAfter o w).toNat = Spec.after o.toNat w :=
  addressAfter_toNat o w

theorem sext_eq (b : Byte) : Spec.sext b = if b.toNat < 128 then (b.toNat : Int) else (b.toNat : Int) - 256 := rfl

theorem signExtend_toNat (b : Byte) : ((b.signExtend 16).toNat : Int) = Spec.sext b % 65536 := by
  revert b; decide +kernel

theorem relativeTarget_toNat (o : Word) (b : Byte) :
    ((relativeTarget o b).toNat : Int) = ((o.toNat : Int) + 2 + Spec.sext b) % 65536 := by
  have hb := signExtend_toNat b
  rw [relativeTarget, BitVec.toNat_add, addressAfter_toNat]
  push_cast
  rw [hb]
  omega

theorem relativeTarget_eq (o : Word) (b : Byte) : (relativeTarget o b).toNat = Spec.target o.toNat b := by
  have h := relativeTarget_toNat o b
  unfold Spec.target Spec.after
  push_cast
  omega

/-- Displacements lie less than 65536 apart, so they differ mod 65536 where they differ. -/
theorem relativeTarget_injective {o : Word} {b b' : Byte} (h : relativeTarget o b = relativeTarget o b') : b = b' := by
  have hb := relativeTarget_toNat o b
  have hb' := relativeTarget_toNat o b'
  rw [h, hb', sext_eq, sext_eq] at hb
  have := b.isLt
  have := b'.isLt
  exact BitVec.eq_of_toNat_eq (by split at hb <;> split at hb <;> omega)

theorem relativeTarget_self (o : Word) : relativeTarget o 0xFE = o := by
  have h := relativeTarget_toNat o 0xFE
  rw [show Spec.sext 0xFE = -2 from rfl] at h
  exact BitVec.eq_of_toNat_eq (by omega)

theorem relativeTarget_zero (o : Word) : relativeTarget o 0 = addressAfter o 1 :=
  BitVec.add_zero _

/-- A displacement moves the target by less than a page from the address after the branch. -/
theorem page_relativeTarget (o : Word) (b : Byte) :
    page (relativeTarget o b) = page (addressAfter o 1) ∨ page (relativeTarget o b) = page (addressAfter o 1) + 1 ∨
      page (relativeTarget o b) = page (addressAfter o 1) - 1 := by
  have ht := relativeTarget_toNat o b
  have ha := addressAfter_toNat o 1
  rw [sext_eq] at ht
  simp only [← BitVec.toNat_inj, BitVec.toNat_add, BitVec.toNat_sub, page_toNat, ha,
    show (1 : Byte).toNat = 1 from rfl]
  have := o.isLt
  have := b.isLt
  split at ht <;> omega

/-- Settles O40: the target in integers, and what follows from it. -/
theorem relativeTargetIsTheSignedSum : Obligations.RelativeTargetIsTheSignedSum := fun o b _ =>
  ⟨relativeTarget_toNat o b, relativeTarget_self o, relativeTarget_zero o, relativeTarget_injective,
    page_relativeTarget o b⟩

/-! ### The page test -/

theorem crosses_iff (a t : Word) : crosses a t = true ↔ a.toNat / 256 ≠ t.toNat / 256 := by
  rw [crosses, bne_iff_ne, Ne, ← BitVec.toNat_inj, page_toNat, page_toNat]

/-- Settles O52: the page is the high byte. -/
theorem pageTestComparesHighBytes : Obligations.PageTestComparesHighBytes := fun a t =>
  ⟨crosses_iff a t, bne_comm, fun lo => congrArg (page a != ·) (highByte_wordOf lo (page t))⟩

end Sys2Proof.Machine
end

section
/-! PROOFS. Family other, 40_classify_decode.md: a `decode` call answers what the spec's pseudocode does on numbers
(rules R71 to R73, R77), and when a step is refused (rules R31, R194, R204). -/

namespace Sys2Proof.Machine

/-! ### The parts of a record, on numbers -/

theorem width_eq (m : Mode) : m.width = Spec.width m := by
  cases m <;> rfl

theorem operandWidth_eq_length (e : OpcodeEntry) : 1 + e.operandWidth = Spec.length e := by
  rw [one_add_operandWidth, width_eq, Spec.length]

theorem operandBytes_eq (m : Mode) (b0 b1 : Byte) :
    operandBytes m b0 b1 = if Spec.width m = 0 then [] else if Spec.width m = 1 then [b0] else [b0, b1] := by
  cases m <;> rfl

@[simp] theorem map_ofNat_map_toNat (r : Option Word) : (r.map BitVec.toNat).map (BitVec.ofNat 16) = r := by
  cases r <;> simp

theorem render_resolved (m : Mode) (b0 b1 : Byte) (o : Word) :
    (Spec.render m b0 b1 o.toNat).2 = (resolvedValue m b0 b1 o).map BitVec.toNat := by
  cases m <;> simp [Spec.render, resolvedValue, wordOf_toNat, Spec.word, relativeTarget_eq]

/-- The mnemonic's space is the first character of the spec's text. -/
theorem instructionText_eq (name : String) (m : Mode) (b0 b1 : Byte) (o : Word) :
    instructionText name (operandText m b0 b1 o) = name ++ (Spec.render m b0 b1 o.toNat).1 := by
  apply String.toList_inj.1
  cases m <;>
    simp [operandText, Spec.render, hex2_eq, hex4_eq, wordOf_toNat, Spec.word, relativeTarget_eq]

theorem crossesResolved_iff (a : Word) (r : Option Word) :
    crossesResolved a r = true ↔ ∃ t ∈ r.map BitVec.toNat, a.toNat / 256 ≠ t / 256 := by
  cases r with
  | none => simp [crossesResolved]
  | some t => simp [crossesResolved, crosses_iff]

theorem annotate_eq (e : OpcodeEntry) (o : Word) (r : Option Word) :
    annotate e o r = Spec.annotate e o.toNat (r.map BitVec.toNat) := by
  rcases hf : e.flags with ⟨_ | _, _ | _⟩ <;>
    simp [annotate, Spec.annotate, hf, crossesResolved_iff, addressAfter_eq, width_eq]

theorem cyclesText_eq (c : Cycles) : cyclesText c = Spec.cyclesText c := by
  cases c <;> simp only [cyclesText, Spec.cyclesText, dec_eq_toString]

/-! ### The record and the cursor -/

theorem undefinedRecord_eq (e : OpcodeEntry) (op : Byte) (o : Word) :
    undefinedRecord e op o = Spec.undefinedLine e op o.toNat := by
  simp [undefinedRecord, Spec.undefinedLine, rawByteText, hex2_eq]

theorem validRecord_eq {e : OpcodeEntry} {m : String} (hm : e.mnemonic = .name m) (op b0 b1 : Byte) (o : Word)
    (c : Bool) : validRecord e m op b0 b1 o c = Spec.validLine e op b0 b1 o.toNat c := by
  simp only [validRecord, Spec.validLine, operandBytes_eq, instructionText_eq, hm, Spec.printedName, annotate_eq,
    cyclesText_eq, render_resolved, map_ofNat_map_toNat, BitVec.ofNat_toNat, BitVec.setWidth_eq]

/-- A record with a name, or an invalid one, decodes to the line of the spec. -/
theorem decodeEntry_eq_line {e : OpcodeEntry} (h : e.named = true) (op b0 b1 : Byte) (o : Word) (c : Bool) :
    decodeEntry e op b0 b1 o c = some (Spec.line e op b0 b1 o.toNat c, advance o e.operandWidth) := by
  obtain ⟨d, n, hd⟩ := decodeEntry_of_named h op b0 b1 o c
  rw [hd]
  obtain ⟨hv, rfl, rfl⟩ | ⟨m, hv, hm, rfl, rfl⟩ := decodeEntry_cases hd
  · rw [Spec.line, if_neg (hv ▸ Bool.false_ne_true), undefinedRecord_eq, operandWidth_of_invalid hv]
  · rw [Spec.line, if_pos hv, validRecord_eq hm, operandWidth_of_valid hv]

/-- A call within the contract, at a record with a name or an invalid one, returns the line of the spec. -/
theorem call_eq_returns {s : State} {op : Byte} (hc : s.contract = true) (hn : (s.optab.get op).named = true)
    (b0 b1 : Byte) :
    s.call op b0 b1 = .next (Spec.returns s (Spec.line (s.optab.get op) op b0 b1 s.offset.toNat s.cycleEn)
      (Spec.length (s.optab.get op))) := by
  rw [call_next hc (decodeEntry_eq_line hn op b0 b1 s.offsetWord s.cycleEn), State.deliver,
    advance_offsetWord hc (operandWidth_le_two _), operandWidth_eq_length, offsetWord_toNat hc, Spec.returns]

/-- Settles O14: the step calls with the three bytes at the cursor. -/
theorem stepRefinesDecodePseudocode : Obligations.StepRefinesDecodePseudocode := by
  intro s hrom ho hs hc
  rw [step_call ho hs, call_eq_returns hc (named_of_wellformed (hrom _))]

/-- Settles O15: every instruction is one call with its own bytes. -/
theorem everyInstructionCompletes : Obligations.EveryInstructionCompletes := fun i s hc hn =>
  (exec_eq_call i s).trans (call_eq_returns hc hn _ _)

/-! ### When a call is refused -/

/-- A valid record that holds the sentinel has no text to print. -/
theorem decodeEntry_of_not_named {e : OpcodeEntry} (h : e.named = false) (op b0 b1 : Byte) (o : Word) (c : Bool) :
    decodeEntry e op b0 b1 o c = none := by
  unfold OpcodeEntry.named at h
  split at h
  · cases h
  · cases h
  next hv hm => simp [decodeEntry, hv, hm]

/-- Inside the contract a call at a valid record without a name is refused by name. -/
theorem call_romIllFormed {s : State} {op : Byte} (hc : s.contract = true) (hn : (s.optab.get op).named = false)
    (b0 b1 : Byte) : s.call op b0 b1 = .refused .romIllFormed := by
  simp [State.call, hc, decodeEntry_of_not_named hn]

/-- The three answers of an instruction, by the contract and the name of its record. -/
theorem exec_cases (i : Instr) (s : State) :
    (s.contract = false ∧ exec i s = .refused .bufferBound) ∨
    (s.contract = true ∧ i.entryNamed s.optab = false ∧ exec i s = .refused .romIllFormed) ∨
    (s.contract = true ∧ i.entryNamed s.optab = true ∧ ∃ t, exec i s = .next t) := by
  rw [exec_eq_call]
  rcases hc : s.contract with _ | _
  · exact .inl ⟨rfl, call_bufferBound hc ..⟩
  · rcases hn : i.entryNamed s.optab with _ | _
    · exact .inr (.inl ⟨rfl, rfl, call_romIllFormed hc hn ..⟩)
    · exact .inr (.inr ⟨rfl, rfl, _, call_eq_returns hc hn ..⟩)

/-- Settles O16: the three answers exclude each other, and so do their conditions. -/
theorem instructionsStopOnlyByName : Obligations.InstructionsStopOnlyByName := by
  intro i s
  obtain ⟨hc, h⟩ | ⟨hc, hn, h⟩ | ⟨hc, hn, t, h⟩ := exec_cases i s
  · simp [h, hc]
  · simp [h, hc, hn]
  · simp [h, hc, hn]

/-! ### The step -/

/-- Settles O7: the first thing a step does. -/
theorem classifyAnswersTheRecord : Obligations.ClassifyAnswersTheRecord := fun _ _ h => step_classify h

/-- Settles O12: the cursor is not below the stop bound. -/
theorem stepIsIdleAtTheStopBound : Obligations.StepIsIdleAtTheStopBound := fun _ ho hs =>
  step_idle ho (Nat.not_lt_of_ge hs)

/-- Three bytes are enough for every opcode. -/
theorem decode_three (op b0 b1 : Byte) :
    decode [op, b0, b1] = .ok (decodeThree op b0 b1, [b0, b1].drop (mapWidth op)) := by
  unfold decodeThree mapWidth
  rcases hs : shapeOf op with i | mk | mk <;> simp [decode, hs, Shape.format, Format.operandBytes]

theorem eq_decodeThree_of_decode {op b0 b1 : Byte} {i : Instr} {rest : List Byte}
    (h : decode [op, b0, b1] = .ok (i, rest)) : i = decodeThree op b0 b1 := by
  rw [decode_three] at h; cases h; rfl

/-- Settles O11: the three bytes the step fetches are those `decode` reads. -/
theorem stepRunsDecodedInstruction : Obligations.StepRunsDecodedInstruction := by
  intro s i rest ho hs hc hd
  refine ⟨?_, memRead_eq_byteAt hc (Nat.zero_le 2), memRead_eq_byteAt hc one_le_two, memRead_eq_byteAt hc le_rfl⟩
  rw [step_call ho hs, ← exec_decodeThree, eq_decodeThree_of_decode hd]

/-- The contract is three reads none of which is refused. -/
theorem contract_iff_memRead (s : State) :
    s.contract = true ↔ s.offset.toNat ≤ 65535 ∧ ∀ k ≤ 2, ∃ v, s.memRead (s.offset.toNat + k) = .ok v := by
  constructor
  · intro hc
    exact ⟨Nat.le_of_lt_succ ((contract_iff s).1 hc).1, fun k hk => ⟨_, memRead_eq_byteAt hc hk⟩⟩
  · rintro ⟨ho, hread⟩
    obtain ⟨v, hv⟩ := hread 2 le_rfl
    refine (contract_iff s).2 ⟨Nat.lt_succ_of_le ho, Nat.lt_of_not_le fun hle => ?_⟩
    rw [State.memRead, if_pos hle] at hv
    cases hv

/-- Settles O13: a pending `classify`, the idle step and the call are the three things a step does, and the call alone
has a contract. -/
theorem stepStopsExactlyOutsideTheContract : Obligations.StepStopsExactlyOutsideTheContract := by
  intro s hrom
  have hcontract : s.contract = true ↔ s.offset.toNat ≤ 65535 ∧ s.offset.toNat + 2 < s.bufLen := by
    rw [contract_iff, Nat.lt_succ_iff]
  refine ⟨hcontract, contract_iff_memRead s, ?_⟩
  rcases ho : s.opcodeByte with _ | b
  · by_cases hs : s.offset < s.stop
    · have hnot : ¬ s.stop.toNat ≤ s.offset.toNat := Nat.not_le_of_lt hs
      rcases hc : s.contract with _ | _
      · have hstep : step s = .refused .bufferBound := by rw [step_call ho hs, call_bufferBound hc]
        simp [StepSafe, hstep, hnot]
      · have hstep := stepRefinesDecodePseudocode s hrom ho hs hc
        simp [StepSafe, hstep]
    · have hle : s.stop.toNat ≤ s.offset.toNat := Nat.le_of_not_lt hs
      simp [StepSafe, step_idle ho hs, hle]
  · simp [StepSafe, step_classify ho]

/-! ### A placed word -/

theorem decodeTableWord_eq_some {nbits w : Nat} {i : Instr} (h : decodeTableWord nbits w = some i) :
    i = decodeThree (tableByte nbits w 0) (tableByte nbits w 1) (tableByte nbits w 2) := by
  rw [decodeTableWord, tableBytes, decode_three] at h
  cases h
  rfl

/-- Three bytes of address space follow the place where a word is put. -/
theorem fetchOffset_add_three_le (s : State) : s.fetchOffset.toNat + 3 ≤ 65536 := by
  unfold State.fetchOffset
  split
  next h => exact h
  next => decide

theorem withFetchWord_contract (s : State) (nbits w : Nat) : (s.withFetchWord nbits w).contract = true := by
  have hroom := fetchOffset_add_three_le s
  have hbuf : max s.imageLen (s.fetchOffset.toNat + 3) + 2 ≤ (s.withFetchWord nbits w).bufLen := Nat.le_max_right _ _
  have himage := Nat.le_max_right s.imageLen (s.fetchOffset.toNat + 3)
  have hoffset : (s.withFetchWord nbits w).offset = s.fetchOffset := rfl
  rw [contract_iff, hoffset]
  omega

theorem withFetchWord_offset_lt_stop (s : State) (nbits w : Nat) :
    (s.withFetchWord nbits w).offset < (s.withFetchWord nbits w).stop := by
  have hroom := fetchOffset_add_three_le s
  show s.fetchOffset < if s.fetchOffset < s.stop then s.stop else s.fetchOffset + 1
  split
  next h => exact h
  next =>
    rw [BitVec.lt_def, BitVec.toNat_add, show (1 : Cursor).toNat = 1 from rfl]
    omega

/-- The bytes at the cursor are those placed there. -/
theorem withFetchWord_byteAt {s : State} (hm : s.mem.wf = true) (nbits w : Nat) {k : Nat} (hk : k < 3) :
    (s.withFetchWord nbits w).byteAt k = tableByte nbits w k := by
  have hread := read_writeList (tableBytes nbits w) s.fetchOffset.toNat (s.fetchOffset.toNat + k) hm
  rw [if_pos (Nat.le_add_right _ _), Nat.add_sub_cancel_left] at hread
  refine Eq.trans hread ?_
  match k, hk with
  | 0, _ | 1, _ | 2, _ => rfl

/-- Settles O17: the placed bytes lie at the cursor, below the stop bound and within the contract. -/
theorem placedWordRunsNext : Obligations.PlacedWordRunsNext := by
  intro s nbits w i hm hi
  refine ⟨withFetchWord_contract s nbits w, ?_, rfl, rfl⟩
  rw [step_call rfl (withFetchWord_offset_lt_stop s nbits w), ← exec_decodeThree,
    withFetchWord_byteAt hm nbits w (by omega), withFetchWord_byteAt hm nbits w (by omega),
    withFetchWord_byteAt hm nbits w (by omega), ← decodeTableWord_eq_some hi]

end Sys2Proof.Machine
end

section
/-! PROOFS. Family other, 43_load_store.md to 49_undefined_opcodes.md: the line of every instruction under the default
table. -/

namespace Sys2Proof.Machine

/-! ### Records whose annotation takes no page test -/

/-- The name, the mode and the annotation of a valid record that has a name and not both flags. -/
def fixedLine (e : OpcodeEntry) : Option (String × Mode × Cycles) :=
  match e.valid, e.mnemonic, e.flags with
  | true, .name m, ⟨false, false⟩ => some (m, e.mode, .single e.baseCycles)
  | true, .name m, ⟨true, false⟩ => some (m, e.mode, .pair e.baseCycles (e.baseCycles + 1))
  | _, _, _ => none

theorem fixedLine_eq_some {e : OpcodeEntry} {m : String} {mode : Mode} {cost : Cycles}
    (h : fixedLine e = some (m, mode, cost)) :
    e.valid = true ∧ e.mnemonic = .name m ∧ e.mode = mode ∧ ∀ o r, Spec.annotate e o r = cost := by
  unfold fixedLine at h
  split at h
  next hv hm hf => cases h; exact ⟨hv, hm, rfl, fun o r => by simp [Spec.annotate, hf]⟩
  next hv hm hf => cases h; exact ⟨hv, hm, rfl, fun o r => by simp [Spec.annotate, hf]⟩
  next => cases h

/-! ### The line of an instruction, mode by mode -/

theorem spec_low (w : Word) : Spec.low w = lowByte w := by
  apply BitVec.eq_of_toNat_eq
  rw [lowByte_toNat, Spec.low, BitVec.toNat_ofNat]; omega

theorem spec_high (w : Word) : Spec.high w = highByte w := by
  have := w.isLt
  apply BitVec.eq_of_toNat_eq
  rw [highByte_toNat, Spec.high, BitVec.toNat_ofNat]; omega

theorem spec_word (w : Word) : Spec.word (lowByte w) (highByte w) = w.toNat := by
  rw [Spec.word, ← wordOf_toNat, wordOf_low_high]

section
variable {s : State} {i : Instr} {m : String} {b lo hi : Byte} {w : Word} {cost : Cycles}

theorem ownByte0_of_operand {rest : List Byte} (h : i.operand = lo :: rest) : ownByte0 i s = lo := by
  simp [ownByte0, h]

theorem ownByte1_of_operand (h : i.operand = [lo, hi]) : ownByte1 i s = hi := by
  simp [ownByte1, h]

variable (hrom : RomDefault s.optab) (hc : s.contract = true)
include hrom hc

/-- A named valid record under the default table: the call returns its line. -/
theorem exec_eq_lineState {mode : Mode} (hv : (defaultOptab.get i.opcode).valid = true)
    (hm : (defaultOptab.get i.opcode).mnemonic = .name m) (hmode : (defaultOptab.get i.opcode).mode = mode) :
    exec i s = .next (Spec.lineState s mode i.opcode (operandBytes mode (ownByte0 i s) (ownByte1 i s))
      ((Spec.render mode (ownByte0 i s) (ownByte1 i s) s.offset.toNat).2.map (BitVec.ofNat 16))
      (m ++ (Spec.render mode (ownByte0 i s) (ownByte1 i s) s.offset.toNat).1)
      (Spec.annotate (defaultOptab.get i.opcode) s.offset.toNat
        (Spec.render mode (ownByte0 i s) (ownByte1 i s) s.offset.toNat).2)) := by
  have hn : (s.optab.get i.opcode).named = true := hrom ▸ named_of_wellformed (romWellformed_default _)
  have hlength : Spec.length (defaultOptab.get i.opcode) =
      1 + (operandBytes mode (ownByte0 i s) (ownByte1 i s)).length := by
    rw [operandBytes_length, ← hmode, ← operandWidth_of_valid hv, operandWidth_eq_length]
  rw [exec_eq_call, call_eq_returns hc hn, hrom, hlength]
  simp [Spec.lineState, Spec.line, Spec.validLine, Spec.printedName, hv, hm, hmode, operandBytes_eq]

/-- The same where the annotation takes no page test. -/
theorem exec_eq_fixedLine {mode : Mode} (h : fixedLine (defaultOptab.get i.opcode) = some (m, mode, cost)) :
    exec i s = .next (Spec.lineState s mode i.opcode (operandBytes mode (ownByte0 i s) (ownByte1 i s))
      ((Spec.render mode (ownByte0 i s) (ownByte1 i s) s.offset.toNat).2.map (BitVec.ofNat 16))
      (m ++ (Spec.render mode (ownByte0 i s) (ownByte1 i s) s.offset.toNat).1) cost) := by
  obtain ⟨hv, hm, hmode, hcost⟩ := fixedLine_eq_some h
  rw [exec_eq_lineState hrom hc hv hm hmode, hcost]

/-- A row of format F1 carries its operand byte. -/
theorem exec_f1Line {mode : Mode} (h : fixedLine (defaultOptab.get i.opcode) = some (m, mode, cost))
    (hwidth : mode.width = 1) (ho : i.operand = [b]) :
    exec i s = .next (Spec.lineState s mode i.opcode [b]
      ((Spec.render mode b (ownByte1 i s) s.offset.toNat).2.map (BitVec.ofNat 16))
      (m ++ (Spec.render mode b (ownByte1 i s) s.offset.toNat).1) cost) := by
  rw [exec_eq_fixedLine hrom hc h, ownByte0_of_operand ho, operandBytes, hwidth]
  rfl

/-- A row of format F2 carries its operand word, the low byte first. -/
theorem exec_f2Line {mode : Mode} (h : fixedLine (defaultOptab.get i.opcode) = some (m, mode, cost))
    (hwidth : mode.width = 2) (ho : i.operand = [lowByte w, highByte w]) :
    exec i s = .next (Spec.lineState s mode i.opcode [Spec.low w, Spec.high w]
      ((Spec.render mode (lowByte w) (highByte w) s.offset.toNat).2.map (BitVec.ofNat 16))
      (m ++ (Spec.render mode (lowByte w) (highByte w) s.offset.toNat).1) cost) := by
  rw [exec_eq_fixedLine hrom hc h, ownByte0_of_operand ho, ownByte1_of_operand ho, operandBytes, hwidth, spec_low,
    spec_high]
  rfl

theorem exec_imm (h : fixedLine (defaultOptab.get i.opcode) = some (m, .immediate, cost)) (ho : i.operand = [b]) :
    exec i s = .next (Spec.imm s m i.opcode b cost) := by
  simp [exec_f1Line hrom hc h rfl ho, Spec.imm, Spec.render, String.append_assoc]

theorem exec_abs (h : fixedLine (defaultOptab.get i.opcode) = some (m, .absolute, cost))
    (ho : i.operand = [lowByte w, highByte w]) :
    exec i s = .next (Spec.abs s m i.opcode w cost) := by
  simp [exec_f2Line hrom hc h rfl ho, Spec.abs, Spec.render, spec_word, String.append_assoc]

theorem exec_zp (h : fixedLine (defaultOptab.get i.opcode) = some (m, .zeroPage, cost)) (ho : i.operand = [b]) :
    exec i s = .next (Spec.zp s m i.opcode b cost) := by
  simp [exec_f1Line hrom hc h rfl ho, Spec.zp, Spec.render, String.append_assoc]

theorem exec_imp (h : fixedLine (defaultOptab.get i.opcode) = some (m, .implied, cost)) :
    exec i s = .next (Spec.imp s m i.opcode cost) := by
  simp [exec_eq_fixedLine hrom hc h, Spec.imp, Spec.render, operandBytes, Mode.width]

theorem exec_ind (h : fixedLine (defaultOptab.get i.opcode) = some (m, .indirectAbsolute, cost))
    (ho : i.operand = [lowByte w, highByte w]) :
    exec i s = .next (Spec.ind s m i.opcode w cost) := by
  simp [exec_f2Line hrom hc h rfl ho, Spec.ind, Spec.render, spec_word, String.append_assoc]

theorem exec_abx (h : fixedLine (defaultOptab.get i.opcode) = some (m, .absoluteIndexedX, cost))
    (ho : i.operand = [lowByte w, highByte w]) :
    exec i s = .next (Spec.abx s m i.opcode w cost) := by
  simp [exec_f2Line hrom hc h rfl ho, Spec.abx, Spec.render, spec_word, String.append_assoc]

theorem exec_aby (h : fixedLine (defaultOptab.get i.opcode) = some (m, .absoluteIndexedY, cost))
    (ho : i.operand = [lowByte w, highByte w]) :
    exec i s = .next (Spec.aby s m i.opcode w cost) := by
  simp [exec_f2Line hrom hc h rfl ho, Spec.aby, Spec.render, spec_word, String.append_assoc]

theorem exec_zpx (h : fixedLine (defaultOptab.get i.opcode) = some (m, .zeroPageIndexedX, cost))
    (ho : i.operand = [b]) :
    exec i s = .next (Spec.zpx s m i.opcode b cost) := by
  simp [exec_f1Line hrom hc h rfl ho, Spec.zpx, Spec.render, String.append_assoc]

theorem exec_zpy (h : fixedLine (defaultOptab.get i.opcode) = some (m, .zeroPageIndexedY, cost))
    (ho : i.operand = [b]) :
    exec i s = .next (Spec.zpy s m i.opcode b cost) := by
  simp [exec_f1Line hrom hc h rfl ho, Spec.zpy, Spec.render, String.append_assoc]

theorem exec_izx (h : fixedLine (defaultOptab.get i.opcode) = some (m, .indexedIndirectX, cost))
    (ho : i.operand = [b]) :
    exec i s = .next (Spec.izx s m i.opcode b cost) := by
  simp [exec_f1Line hrom hc h rfl ho, Spec.izx, Spec.render, String.append_assoc]

theorem exec_izy (h : fixedLine (defaultOptab.get i.opcode) = some (m, .indirectIndexedY, cost))
    (ho : i.operand = [b]) :
    exec i s = .next (Spec.izy s m i.opcode b cost) := by
  simp [exec_f1Line hrom hc h rfl ho, Spec.izy, Spec.render, String.append_assoc]

theorem exec_acc (h : fixedLine (defaultOptab.get i.opcode) = some (m, .accumulator, cost)) :
    exec i s = .next (Spec.acc s m i.opcode cost) := by
  simp [exec_eq_fixedLine hrom hc h, Spec.acc, Spec.render, operandBytes, Mode.width]

/-- A conditional branch: the target is its resolved value, so the page test is between the two. -/
theorem exec_rel {base : Nat} (h : defaultOptab.get i.opcode = branchEntry m base) (ho : i.operand = [b]) :
    exec i s = .next (Spec.rel s m i.opcode b base) := by
  rw [exec_eq_lineState hrom hc (congrArg OpcodeEntry.valid h) (congrArg OpcodeEntry.mnemonic h)
    (congrArg OpcodeEntry.mode h), ownByte0_of_operand ho, h]
  simp [Spec.rel, Spec.render, operandBytes, Mode.width, Spec.annotate, branchEntry, Spec.width, String.append_assoc]

/-- An undefined opcode byte. -/
theorem exec_byte (h : defaultOptab.get i.opcode = undefinedEntry) :
    exec i s = .next (Spec.byteState s i.opcode) := by
  have hn : (s.optab.get i.opcode).named = true := hrom ▸ named_of_wellformed (romWellformed_default _)
  rw [exec_eq_call, call_eq_returns hc hn, hrom, h]
  rfl

end

/-! ### The statements, one row of the table a line -/

/-- Settles O18: each load and store by the line of its mode. -/
theorem loadStoreLines : Obligations.LoadStoreLines := fun _ _ _ hrom hc =>
  ⟨exec_izx hrom hc rfl rfl, exec_zp hrom hc rfl rfl, exec_imm hrom hc rfl rfl, exec_abs hrom hc rfl rfl,
    exec_izy hrom hc rfl rfl, exec_zpx hrom hc rfl rfl, exec_aby hrom hc rfl rfl, exec_abx hrom hc rfl rfl,
    exec_imm hrom hc rfl rfl, exec_zp hrom hc rfl rfl, exec_abs hrom hc rfl rfl, exec_zpy hrom hc rfl rfl,
    exec_aby hrom hc rfl rfl, exec_imm hrom hc rfl rfl, exec_zp hrom hc rfl rfl, exec_abs hrom hc rfl rfl,
    exec_zpx hrom hc rfl rfl, exec_abx hrom hc rfl rfl, exec_izx hrom hc rfl rfl, exec_zp hrom hc rfl rfl,
    exec_abs hrom hc rfl rfl, exec_izy hrom hc rfl rfl, exec_zpx hrom hc rfl rfl, exec_aby hrom hc rfl rfl,
    exec_abx hrom hc rfl rfl, exec_zp hrom hc rfl rfl, exec_abs hrom hc rfl rfl, exec_zpy hrom hc rfl rfl,
    exec_zp hrom hc rfl rfl, exec_abs hrom hc rfl rfl, exec_zpx hrom hc rfl rfl⟩

/-- Settles O19: each transfer and stack instruction is Implied. -/
theorem transferStackLines : Obligations.TransferStackLines := fun _ hrom hc =>
  ⟨exec_imp hrom hc rfl, exec_imp hrom hc rfl, exec_imp hrom hc rfl, exec_imp hrom hc rfl, exec_imp hrom hc rfl,
    exec_imp hrom hc rfl, exec_imp hrom hc rfl, exec_imp hrom hc rfl, exec_imp hrom hc rfl, exec_imp hrom hc rfl⟩

/-- Settles O20: each form by the line of its mode. -/
theorem arithLogicLines : Obligations.ArithLogicLines := fun _ _ _ hrom hc =>
  ⟨exec_izx hrom hc rfl rfl, exec_zp hrom hc rfl rfl, exec_imm hrom hc rfl rfl, exec_abs hrom hc rfl rfl,
    exec_izy hrom hc rfl rfl, exec_zpx hrom hc rfl rfl, exec_aby hrom hc rfl rfl, exec_abx hrom hc rfl rfl,
    exec_izx hrom hc rfl rfl, exec_zp hrom hc rfl rfl, exec_imm hrom hc rfl rfl, exec_abs hrom hc rfl rfl,
    exec_izy hrom hc rfl rfl, exec_zpx hrom hc rfl rfl, exec_aby hrom hc rfl rfl, exec_abx hrom hc rfl rfl,
    exec_izx hrom hc rfl rfl, exec_zp hrom hc rfl rfl, exec_imm hrom hc rfl rfl, exec_abs hrom hc rfl rfl,
    exec_izy hrom hc rfl rfl, exec_zpx hrom hc rfl rfl, exec_aby hrom hc rfl rfl, exec_abx hrom hc rfl rfl,
    exec_izx hrom hc rfl rfl, exec_zp hrom hc rfl rfl, exec_imm hrom hc rfl rfl, exec_abs hrom hc rfl rfl,
    exec_izy hrom hc rfl rfl, exec_zpx hrom hc rfl rfl, exec_aby hrom hc rfl rfl, exec_abx hrom hc rfl rfl,
    exec_izx hrom hc rfl rfl, exec_zp hrom hc rfl rfl, exec_imm hrom hc rfl rfl, exec_abs hrom hc rfl rfl,
    exec_izy hrom hc rfl rfl, exec_zpx hrom hc rfl rfl, exec_aby hrom hc rfl rfl, exec_abx hrom hc rfl rfl,
    exec_izx hrom hc rfl rfl, exec_zp hrom hc rfl rfl, exec_imm hrom hc rfl rfl, exec_abs hrom hc rfl rfl,
    exec_izy hrom hc rfl rfl, exec_zpx hrom hc rfl rfl, exec_aby hrom hc rfl rfl, exec_abx hrom hc rfl rfl,
    exec_imm hrom hc rfl rfl, exec_zp hrom hc rfl rfl, exec_abs hrom hc rfl rfl, exec_imm hrom hc rfl rfl,
    exec_zp hrom hc rfl rfl, exec_abs hrom hc rfl rfl, exec_zp hrom hc rfl rfl, exec_abs hrom hc rfl rfl⟩

/-- Settles O21: each form by the line of its mode. -/
theorem incDecShiftLines : Obligations.IncDecShiftLines := fun _ _ _ hrom hc =>
  ⟨exec_zp hrom hc rfl rfl, exec_abs hrom hc rfl rfl, exec_zpx hrom hc rfl rfl, exec_abx hrom hc rfl rfl,
    exec_imp hrom hc rfl, exec_imp hrom hc rfl, exec_zp hrom hc rfl rfl, exec_abs hrom hc rfl rfl,
    exec_zpx hrom hc rfl rfl, exec_abx hrom hc rfl rfl, exec_imp hrom hc rfl, exec_imp hrom hc rfl,
    exec_zp hrom hc rfl rfl, exec_acc hrom hc rfl, exec_abs hrom hc rfl rfl, exec_zpx hrom hc rfl rfl,
    exec_abx hrom hc rfl rfl, exec_zp hrom hc rfl rfl, exec_acc hrom hc rfl, exec_abs hrom hc rfl rfl,
    exec_zpx hrom hc rfl rfl, exec_abx hrom hc rfl rfl, exec_zp hrom hc rfl rfl, exec_acc hrom hc rfl,
    exec_abs hrom hc rfl rfl, exec_zpx hrom hc rfl rfl, exec_abx hrom hc rfl rfl, exec_zp hrom hc rfl rfl,
    exec_acc hrom hc rfl, exec_abs hrom hc rfl rfl, exec_zpx hrom hc rfl rfl, exec_abx hrom hc rfl rfl⟩

/-- Settles O22: each branch by the Relative line. -/
theorem branchLines : Obligations.BranchLines := fun _ _ hrom hc =>
  ⟨exec_rel hrom hc rfl rfl, exec_rel hrom hc rfl rfl, exec_rel hrom hc rfl rfl, exec_rel hrom hc rfl rfl,
    exec_rel hrom hc rfl rfl, exec_rel hrom hc rfl rfl, exec_rel hrom hc rfl rfl, exec_rel hrom hc rfl rfl⟩

/-- Settles O23: each by the line of its mode. -/
theorem jumpSystemLines : Obligations.JumpSystemLines := fun _ _ hrom hc =>
  ⟨exec_abs hrom hc rfl rfl, exec_ind hrom hc rfl rfl, exec_abs hrom hc rfl rfl, exec_imp hrom hc rfl,
    exec_imp hrom hc rfl, exec_imp hrom hc rfl⟩

/-- Settles O24: each is Implied. -/
theorem flagNopLines : Obligations.FlagNopLines := fun _ hrom hc =>
  ⟨exec_imp hrom hc rfl, exec_imp hrom hc rfl, exec_imp hrom hc rfl, exec_imp hrom hc rfl, exec_imp hrom hc rfl,
    exec_imp hrom hc rfl, exec_imp hrom hc rfl, exec_imp hrom hc rfl⟩

/-- Each row of the list of undefined bytes has its byte as opcode, and the table's filler there. -/
theorem undefinedRows_spec :
    ∀ row ∈ Spec.undefinedRows, row.1.opcode = row.2 ∧ defaultOptab.get row.2 = undefinedEntry := by
  decide +kernel

/-- Settles O25: the record of each of these bytes is the filler. -/
theorem undefinedOpcodeLines : Obligations.UndefinedOpcodeLines := by
  intro s hrom hc row hrow
  obtain ⟨hop, hentry⟩ := undefinedRows_spec row hrow
  rw [← hop]
  exact exec_byte hrom hc (hop ▸ hentry)

end Sys2Proof.Machine
end

section
/-! PROOFS. Family other, 10_state.md, 20_memory.md and 70_reset_and_hazards.md: what an instruction and a step leave
unchanged, the run of the caller's loop, and the caller's moves (rules R10, R30, R77, R78, R212, R215, R223, R224). -/

namespace Sys2Proof.Machine

/-! ### Frames -/

/-- Everything an instruction can answer when it answers a next state. -/
theorem exec_eq_next_iff {i : Instr} {s t : State} :
    exec i s = .next t ↔
      s.contract = true ∧
      ∃ d n, decodeEntry (s.optab.get i.opcode) i.opcode (ownByte0 i s) (ownByte1 i s) s.offsetWord s.cycleEn =
        some (d, n) ∧ t = s.deliver d n := by
  rw [exec_eq_call, call_eq_next_iff]

/-- Settles O26: the next state is the caller's with the call's results taken. -/
theorem instructionFrame : Obligations.InstructionFrame := by
  intro i s t h
  obtain ⟨-, d, n, -, rfl⟩ := exec_eq_next_iff.1 h
  exact ⟨rfl, fun _ => rfl, fun _ => rfl, rfl, rfl, rfl, rfl, rfl, rfl, rfl, rfl, rfl, d, rfl, rfl⟩

/-- Settles O27: each of the three things a step does writes its own outputs only. -/
theorem stepFrame : Obligations.StepFrame := by
  intro s t h
  obtain ⟨b, ho, rfl⟩ | ⟨ho, -, rfl⟩ | ⟨ho, -, -, d, n, -, rfl⟩ := step_cases h
  · exact ⟨rfl, fun _ => rfl, fun _ => rfl, rfl, rfl, rfl, rfl, rfl, rfl, List.prefix_rfl,
      fun hnone => absurd (ho.symm.trans hnone) (Option.some_ne_none b), fun _ => ⟨rfl, rfl, rfl, rfl⟩⟩
  · exact ⟨rfl, fun _ => rfl, fun _ => rfl, rfl, rfl, rfl, rfl, rfl, rfl, List.prefix_rfl,
      fun _ => ⟨rfl, ho⟩, fun hsome => absurd ho hsome⟩
  · exact ⟨rfl, fun _ => rfl, fun _ => rfl, rfl, rfl, rfl, rfl, rfl, rfl, List.prefix_append _ _,
      fun _ => ⟨rfl, ho⟩, fun hsome => absurd ho hsome⟩

/-! ### The invariant of a run -/

theorem RunInv.callerOk {s : State} (h : RunInv s) : CallerOk s := ⟨h.rom, h.buffer, h.bounds⟩

/-- A sweep goes on with a record that begins where it ended. -/
theorem Contiguous.append_singleton {a z : Nat} {ds : List DecodedInstruction} {d : DecodedInstruction}
    (h : Contiguous a ds z) (hd : d.offset.toNat = z) : Contiguous a (ds ++ [d]) (z + 1 + d.operand.length) := by
  induction ds generalizing a with
  | nil =>
    obtain rfl : a = z := h
    exact ⟨hd, rfl⟩
  | cons e es ih =>
    obtain ⟨he, hes⟩ := h
    exact ⟨he, ih hes⟩

/-- An answered `classify` touches nothing that the invariant speaks of. -/
theorem RunInv.answerClassify {s : State} (h : RunInv s) (b : Byte) : RunInv (s.answerClassify b) where
  rom := h.rom
  buffer := { h.buffer with }
  bounds := { h.bounds with }
  cursor_le := h.cursor_le
  sweep := h.sweep
  sound := h.sound
  outputs := h.outputs

/-- A delivered call extends the sweep by its record. -/
theorem RunInv.deliver {s : State} (h : RunInv s) (hs : s.offset < s.stop) {d : DecodedInstruction} {n : Cursor}
    (hd : s.decodeAt s.offsetWord = some (d, n)) : RunInv (s.deliver d n) := by
  have hc := h.callerOk.contract hs
  have hlt : s.offset.toNat < s.stop.toNat := hs
  obtain ⟨hoffset, -, -, -, hlen, hn⟩ := decodeEntry_fields hd
  have hwidth : d.operand.length ≤ 2 := hlen ▸ operandWidth_le_two _
  have hnext : n.toNat = s.offset.toNat + 1 + d.operand.length := by
    rw [hn, ← hlen, advance_toNat _ hwidth, offsetWord_toNat hc]
  refine ⟨h.rom, { h.buffer with }, { h.bounds with }, ?_, ?_, ?_, ?_⟩
  · rw [State.deliver_offset, State.deliver_stop]
    omega
  · rw [State.deliver_lines, State.deliver_start, State.deliver_offset, hnext]
    exact h.sweep.append_singleton (hoffset ▸ offsetWord_toNat hc)
  · intro e he
    rw [State.deliver_lines, List.mem_append, List.mem_singleton] at he
    obtain he | rfl := he
    · exact h.sound e he
    · exact ⟨n, hoffset ▸ hd⟩
  · intro _
    rw [State.deliver_lines, List.getLast?_concat]
    exact ⟨rfl, rfl⟩

/-- Settles O28: by the three things a step does. -/
theorem stepKeepsRunInvariant : Obligations.StepKeepsRunInvariant := by
  intro s t h hstep
  obtain ⟨b, -, rfl⟩ | ⟨-, -, rfl⟩ | ⟨-, hs, -, d, n, hd, rfl⟩ := step_cases hstep
  · exact h.answerClassify b
  · exact h
  · exact h.deliver hs hd

/-- A state that has appended no record, with its cursor at the start offset, meets the invariant. -/
theorem CallerOk.runInv {s : State} (h : CallerOk s) (hoffset : s.offset = s.start) (hlines : s.lines = []) :
    RunInv s where
  rom := h.rom
  buffer := h.buffer
  bounds := h.bounds
  cursor_le := hoffset ▸ Nat.le_add_right_of_le h.bounds.start_le
  sweep := by rw [hlines, hoffset]; rfl
  sound := by simp [hlines]
  outputs := fun hne => absurd hlines hne

theorem CallerOk.resetWith {rom : Optab} (h : RomWellformed rom) : CallerOk (State.resetWith rom) where
  rom := h
  buffer := ⟨by simp, by simp [Config.addrBound], by simp [Config.pad], rfl, fun _ hc => absurd hc List.not_mem_nil⟩
  bounds := ⟨by simp, by simp, by simp, by simp [Config.addrBound]⟩

/-- Settles O29: the bounds of reset are 0 in a full image, and no record has been appended. -/
theorem resetMeetsRunInvariant : Obligations.ResetMeetsRunInvariant :=
  (CallerOk.resetWith romWellformed_default).runInv rfl rfl

/-- A turn of the loop below the stop bound completes, keeps the invariant and appends one line. -/
theorem RunInv.turn {s : State} (h : RunInv s) (ho : s.opcodeByte = none) (hs : s.offset < s.stop) :
    ∃ t, step s = .next t ∧ RunInv t ∧ t.opcodeByte = none ∧ t.stop = s.stop ∧ s.offset.toNat < t.offset.toNat ∧
      t.lines.length = s.lines.length + 1 := by
  obtain ⟨d, n, hd⟩ := decodeAt_of_wellformed h.rom s.offsetWord
  have hstep := step_delivers ho hs (h.callerOk.contract hs) hd
  obtain ⟨-, hmoved⟩ := step_advances ho hs hstep
  exact ⟨_, hstep, h.deliver hs hd, ho, rfl, by omega, by rw [State.deliver_lines, List.length_append]; rfl⟩

/-- The loop up to its stop bound, by induction on a bound of the bytes still below it. -/
theorem RunInv.run_to_stop {s : State} (h : RunInv s) (ho : s.opcodeByte = none) {fuel : Nat}
    (hfuel : s.stop.toNat - s.offset.toNat ≤ fuel) :
    ∃ (k : Nat) (t : State), k ≤ s.stop.toNat - s.offset.toNat ∧ Host.Core.run Sys2Proof.core k s = .next t ∧
      t.stop = s.stop ∧ s.stop.toNat ≤ t.offset.toNat ∧ t.opcodeByte = none ∧
      t.lines.length = s.lines.length + k ∧ RunInv t := by
  induction fuel generalizing s with
  | zero => exact ⟨0, s, Nat.zero_le _, rfl, rfl, by omega, ho, rfl, h⟩
  | succ fuel ih =>
    by_cases hs : s.offset < s.stop
    · have hlt : s.offset.toNat < s.stop.toNat := hs
      obtain ⟨t, hstep, ht, hot, hstop, hmoved, hlines⟩ := h.turn ho hs
      obtain ⟨k, u, hk, hrun, hustop, hu, hou, hulines, hinv⟩ := ih ht hot (by rw [hstop]; omega)
      rw [hstop] at hk hustop hu
      exact ⟨k + 1, u, by omega, (run_succ_of_step hstep k).trans hrun, hustop, hu, hou, by omega, hinv⟩
    · exact ⟨0, s, Nat.zero_le _, rfl, rfl, Nat.le_of_not_lt hs, ho, rfl, h⟩

/-- Settles O31: the loop reaches its stop bound, the invariant bounds the cursor there, and the step is idle. -/
theorem runReachesTheStopBound : Obligations.RunReachesTheStopBound := by
  intro s h ho
  obtain ⟨k, t, hk, hrun, hstop, hle, hot, hlines, hinv⟩ := h.run_to_stop ho le_rfl
  exact ⟨k, t, hk, hrun, hle, hstop ▸ hinv.cursor_le, hlines, hinv, step_idle hot (Nat.not_lt_of_ge (hstop ▸ hle))⟩

/-! ### The buffer -/

/-- Settles O33: the image's cells lie below the padding. -/
theorem paddingReadsZero : Obligations.PaddingReadsZero := fun _ h _ ha =>
  ⟨fun hlt => (if_neg (Nat.not_le_of_lt hlt)).trans (congrArg Except.ok (Memory.read_of_cells_below h.in_image ha)),
    fun hle => if_pos hle⟩

/-- A byte written in the image leaves a padded buffer. -/
theorem BufferOk.write {s : State} (h : BufferOk s) {a : Nat} (ha : a < s.imageLen) (b : Byte) :
    BufferOk { s with mem := s.mem.write a b } where
  image_pos := h.image_pos
  image_le := h.image_le
  padded := h.padded
  canonical := Memory.write_wf a b h.canonical
  in_image := fun c hc => (Memory.mem_write hc).elim (fun hca => hca ▸ ha) (h.in_image c)

/-- Settles O32: a read after a write. -/
theorem writtenByteIsSeen : Obligations.WrittenByteIsSeen := by
  intro s t a b h hwrite
  obtain ⟨ha, rfl⟩ := writeByte_eq_some.1 hwrite
  have hread := fun x => Memory.read_write a b x h.canonical
  exact ⟨h.write ha b, hread, fun k hk => (hread _).trans (if_pos hk)⟩

/-- A loaded image is a padded buffer. -/
theorem bufferOk_loadImage {s t : State} {image : List Byte} (h : s.loadImage image = some t) : BufferOk t := by
  obtain ⟨⟨hpos, hle⟩, rfl⟩ := loadImage_eq_some.1 h
  refine ⟨hpos, hle, le_rfl, Memory.writeList_wf image 0 rfl, fun c hc => ?_⟩
  obtain ⟨-, hlt⟩ | hnil := Memory.mem_writeList hc
  · exact hlt.trans_eq (Nat.zero_add _)
  · exact absurd hnil List.not_mem_nil

/-- Every byte of a loaded image is read at its index. -/
theorem memRead_loadImage {s t : State} {image : List Byte} (h : s.loadImage image = some t) {k : Nat} {b : Byte}
    (hb : image[k]? = some b) : t.memRead k = .ok b := by
  obtain ⟨-, rfl⟩ := loadImage_eq_some.1 h
  obtain ⟨hk, -⟩ := List.getElem?_eq_some_iff.1 hb
  have hread : Memory.read (Memory.writeList [] 0 image) k = b := by
    rw [read_writeList image 0 k rfl, if_pos (Nat.zero_le k), Nat.sub_zero, hb, Option.getD_some]
  rw [State.memRead, if_neg (by dsimp only; omega), hread]

/-- A guarded move answers nothing exactly where its guard fails. -/
theorem guarded_eq_none {p : Prop} [Decidable p] {new : State} : (if p then some new else none) = none ↔ ¬ p := by
  by_cases h : p <;> simp [h]

theorem loadImage_eq_none {s : State} {image : List Byte} :
    s.loadImage image = none ↔ image = [] ∨ 65536 < image.length := by
  have hguard : s.loadImage image = none ↔ ¬ (1 ≤ image.length ∧ image.length ≤ 65536) := guarded_eq_none
  rw [hguard, ← List.length_eq_zero_iff]
  omega

/-! ### The caller's moves -/

/-- The guard of the moves that set bounds holds exactly where the new bounds meet premise RUN_BOUNDS. -/
theorem runBounds_eq_true_iff {s : State} {a z : Cursor} :
    s.runBounds a z = true ↔ RunBounds { s with start := a, stop := z } := by
  rw [runBounds_iff]
  exact ⟨fun ⟨h₁, h₂, h₃, h₄⟩ => ⟨h₁, h₂, h₃, h₄⟩, fun ⟨h₁, h₂, h₃, h₄⟩ => ⟨h₁, h₂, h₃, h₄⟩⟩

theorem setOffset_eq_none {s : State} {n : Cursor} : s.setOffset n = none ↔ 65535 < n.toNat :=
  guarded_eq_none.trans Nat.not_le

theorem setStop_eq_none {s : State} {n : Cursor} : s.setStop n = none ↔ ¬ RunBounds { s with stop := n } :=
  guarded_eq_none.trans (not_congr runBounds_eq_true_iff)

theorem beginRun_eq_none {s : State} {a z : Cursor} {c : Bool} :
    s.beginRun a z c = none ↔ ¬ RunBounds { s with start := a, stop := z } :=
  guarded_eq_none.trans (not_congr runBounds_eq_true_iff)

/-- An answered `classify` leaves all that the caller keeps. -/
theorem CallerOk.answerClassify {s : State} (h : CallerOk s) (b : Byte) : CallerOk (s.answerClassify b) where
  rom := h.rom
  buffer := { h.buffer with }
  bounds := { h.bounds with }

/-- A step keeps all that the caller keeps, and the table. -/
theorem CallerOk.step {s t : State} (h : CallerOk s) (hstep : step s = .next t) : CallerOk t ∧ t.optab = s.optab := by
  obtain ⟨b, -, rfl⟩ | ⟨-, -, rfl⟩ | ⟨-, -, -, d, n, -, rfl⟩ := step_cases hstep
  · exact ⟨h.answerClassify b, rfl⟩
  · exact ⟨h, rfl⟩
  · exact ⟨h.deliver d n, rfl⟩

/-- Every move of the caller keeps what it keeps, and the table. -/
theorem CallerOk.move {s t : State} (h : CallerOk s) {m : CallerMove} (hm : m.apply s = some t) :
    CallerOk t ∧ t.optab = s.optab := by
  obtain ⟨hrom, hbuf, hbounds⟩ := h
  cases m with
  | loadImage image =>
    have hloaded := bufferOk_loadImage hm
    obtain ⟨⟨hpos, hle⟩, rfl⟩ := loadImage_eq_some.1 hm
    exact ⟨⟨hrom, hloaded, ⟨hpos, le_rfl, Nat.zero_le _, hle⟩⟩, rfl⟩
  | morePadding n =>
    cases hm
    exact ⟨⟨hrom, morePadding_bufferOk hbuf n, { hbounds with }⟩, rfl⟩
  | writeByte a b =>
    obtain ⟨ha, rfl⟩ := writeByte_eq_some.1 hm
    exact ⟨⟨hrom, hbuf.write ha b, { hbounds with }⟩, rfl⟩
  | beginRun start stop c =>
    obtain ⟨hguard, rfl⟩ := beginRun_eq_some.1 hm
    exact ⟨⟨hrom, { hbuf with }, { runBounds_eq_true_iff.1 hguard with }⟩, rfl⟩
  | setOffset n =>
    obtain ⟨-, rfl⟩ := setOffset_eq_some.1 hm
    exact ⟨⟨hrom, { hbuf with }, { hbounds with }⟩, rfl⟩
  | setStop stop =>
    obtain ⟨hguard, rfl⟩ := setStop_eq_some.1 hm
    exact ⟨⟨hrom, { hbuf with }, { runBounds_eq_true_iff.1 hguard with }⟩, rfl⟩
  | requestClassify | setCycleEn | setInvalidMarker =>
    cases hm
    exact ⟨⟨hrom, { hbuf with }, { hbounds with }⟩, rfl⟩

/-- Where the caller keeps its side, every step answers a next state. -/
theorem CallerOk.stepSafe {s : State} (h : CallerOk s) : StepSafe s := by
  rcases ho : s.opcodeByte with _ | b
  · by_cases hs : s.offset < s.stop
    · obtain ⟨t, hstep, -⟩ := h.turn ho hs
      exact ⟨t, hstep⟩
    · exact ⟨s, step_idle ho hs⟩
  · exact ⟨_, step_classify ho⟩

/-- Settles O54: what the caller keeps holds at first, is kept by every move and every step, and puts every call within
its contract; and the guard of each move is the premise it keeps. -/
theorem callerMovesKeepCallsLegal : Obligations.CallerMovesKeepCallsLegal := by
  refine ⟨fun rom h => ⟨CallerOk.resetWith h, rfl⟩, fun m s t h hm => h.move hm, fun s t h hstep => h.step hstep,
    fun s h => ⟨h.stepSafe, fun hs => (contract_iff_premises s).1 (h.contract hs)⟩, fun s n => ⟨setOffset_eq_none, ?_⟩,
    fun s n => ⟨setStop_eq_none, ?_⟩, fun s a z c => ⟨beginRun_eq_none, ?_⟩⟩
  · intro t ht
    obtain ⟨hn, rfl⟩ := setOffset_eq_some.1 ht
    exact ⟨rfl, hn⟩
  · intro t ht
    obtain ⟨hguard, rfl⟩ := setStop_eq_some.1 ht
    exact ⟨rfl, { runBounds_eq_true_iff.1 hguard with }⟩
  · intro t ht
    obtain ⟨hguard, rfl⟩ := beginRun_eq_some.1 ht
    exact ⟨rfl, rfl, { runBounds_eq_true_iff.1 hguard with }⟩

/-- Settles O30: the image's bytes are the buffer's, its padding reads as zero, and a run begun on it has appended
nothing. -/
theorem loadedRunMeetsRunInvariant : Obligations.LoadedRunMeetsRunInvariant := by
  intro s image hrom
  refine ⟨loadImage_eq_none, fun t h => ?_⟩
  have hbuf := bufferOk_loadImage h
  have hpad := paddingReadsZero t hbuf
  obtain ⟨himage, hbufLen, hromt⟩ : t.imageLen = image.length ∧ t.bufLen = image.length + 2 ∧ t.optab = s.optab := by
    obtain ⟨-, rfl⟩ := loadImage_eq_some.1 h
    exact ⟨rfl, rfl, rfl⟩
  rw [himage, hbufLen] at hpad
  refine ⟨hbuf, fun k b => memRead_loadImage h, (hpad _ le_rfl).1 (by omega), (hpad _ (Nat.le_succ _)).1 (by omega),
    (hpad _ (Nat.le_add_right _ _)).2 le_rfl, fun start stop c hstart hstop hend => ?_⟩
  have hguard : t.runBounds start stop = true := runBounds_iff.2 (himage ▸ ⟨hstart, hstop, hend, himage ▸ hbuf.image_le⟩)
  have hok : CallerOk { t with start := start, offset := start, stop := stop, cycleEn := c, lines := [] } :=
    ⟨hromt ▸ hrom, { hbuf with }, { runBounds_eq_true_iff.1 hguard with }⟩
  exact ⟨_, beginRun_eq_some.2 ⟨hguard, rfl⟩, hok.runInv rfl rfl, rfl, rfl, rfl⟩

end Sys2Proof.Machine
end

section
/-! PROOFS. Family other, 20_memory.md and 41_addressing_modes.md: a line depends on the bytes of its instruction alone,
and what its text, operand and resolved value are (rules R35, R61, R74, R99, R222). -/

namespace Sys2Proof.Machine

/-! ### A record depends on its operand bytes -/

/-- The operand text and the resolved value are made of the operand bytes. -/
theorem operandText_congr {m : Mode} {b0 b1 b0' b1' : Byte} (h : operandBytes m b0 b1 = operandBytes m b0' b1')
    (o : Word) : operandText m b0 b1 o = operandText m b0' b1' o := by
  cases m <;> simp_all [operandBytes, Mode.width, operandText]

theorem resolvedValue_congr {m : Mode} {b0 b1 b0' b1' : Byte} (h : operandBytes m b0 b1 = operandBytes m b0' b1')
    (o : Word) : resolvedValue m b0 b1 o = resolvedValue m b0' b1' o := by
  cases m <;> simp_all [operandBytes, Mode.width, resolvedValue]

/-- `decode` looks at no byte but those its record's width takes. -/
theorem decodeEntry_congr {e : OpcodeEntry} {b0 b1 b0' b1' : Byte}
    (h : [b0, b1].take e.operandWidth = [b0', b1'].take e.operandWidth) (op : Byte) (o : Word) (c : Bool) :
    decodeEntry e op b0 b1 o c = decodeEntry e op b0' b1' o c := by
  rcases hv : e.valid with _ | _
  · rw [decodeEntry_invalid hv, decodeEntry_invalid hv]
  · rw [operandWidth_of_valid hv] at h
    have hbytes : operandBytes e.mode b0 b1 = operandBytes e.mode b0' b1' := h
    rcases hm : e.mnemonic with m | _
    · rw [decodeEntry_valid hv hm, decodeEntry_valid hv hm, validRecord, validRecord, hbytes,
        operandText_congr hbytes, resolvedValue_congr hbytes]
    · simp [decodeEntry, hv, hm]

theorem take_two_congr {f g : Nat → Byte} {w : Nat} (hw : w ≤ 2) (h : ∀ k, k < w → f k = g k) :
    [f 0, f 1].take w = [g 0, g 1].take w := by
  match w, hw with
  | 0, _ => rfl
  | 1, _ => exact congrArg ([·]) (h 0 Nat.one_pos)
  | 2, _ => rw [h 0 Nat.two_pos, h 1 one_lt_two]

/-- Settles O34: both calls decode one record with the same operand bytes. -/
theorem decodeDependsOnItsBytesOnly : Obligations.DecodeDependsOnItsBytesOnly := by
  constructor
  · intro s t u hos hot hss hst hct hoff hcycle hop hentry hbytes hstep
    obtain ⟨b, hb, -⟩ | ⟨-, hidle, -⟩ | ⟨-, -, hcs, d, n, hd, rfl⟩ := step_cases hstep
    · rw [hos] at hb; cases hb
    · exact absurd hss hidle
    · have hword : s.offsetWord = t.offsetWord := congrArg (BitVec.setWidth 16) hoff
      have htake := take_two_congr (f := fun k => s.byteAt (1 + k)) (g := fun k => t.byteAt (1 + k))
        (operandWidth_le_two _) hbytes
      have hdt : t.decodeAt t.offsetWord = some (d, n) := by
        rw [← hd, decodeAt_offsetWord hcs, decodeAt_offsetWord hct, decodeEntry_congr htake, hentry, hop, hword, hcycle]
      exact ⟨_, step_delivers hot hst hct hdt, rfl, rfl⟩
  · intro s t o hcycle hop hentry hbytes
    have htake := take_two_congr (f := fun k => s.mem.read (o.toNat + 1 + k)) (g := fun k => t.mem.read (o.toNat + 1 + k))
      (operandWidth_le_two _) hbytes
    have hbytes := decodeEntry_congr htake (s.mem.read o.toNat) o s.cycleEn
    rw [hentry, hop, hcycle] at hbytes
    rw [State.decodeAt, hentry, hop, hcycle]
    exact hbytes

/-! ### The record an instruction returns -/

/-- What an instruction's call returns: the record of its own opcode and operand bytes. -/
theorem exec_record {i : Instr} {s t : State} {d : DecodedInstruction} (h : exec i s = .next t) (hd : t.record = some d) :
    s.contract = true ∧
    ∃ n, decodeEntry (s.optab.get i.opcode) i.opcode (ownByte0 i s) (ownByte1 i s) s.offsetWord s.cycleEn =
      some (d, n) := by
  obtain ⟨hc, d', n, hdec, rfl⟩ := exec_eq_next_iff.1 h
  cases hd
  exact ⟨hc, n, hdec⟩

theorem mapWidth_le_two (op : Byte) : mapWidth op ≤ 2 := by
  unfold mapWidth
  cases (shapeOf op).format <;> decide

/-- A call sees the instruction's own operand bytes first. -/
theorem ownBytes_take (i : Instr) (s : State) : [ownByte0 i s, ownByte1 i s].take i.operand.length = i.operand := by
  have hle : i.operand.length ≤ 2 := operand_length i ▸ mapWidth_le_two _
  unfold ownByte0 ownByte1
  generalize i.operand = operand at hle ⊢
  match operand, hle with
  | [], _ | [_], _ | [_, _], _ => rfl

/-- Where the table gives the opcode the width the instruction carries, the operand bytes of the call are the
instruction's. -/
theorem ownBytes_take_of_fits {i : Instr} {rom : Optab} (h : i.lengthFits rom = true) (s : State) :
    [ownByte0 i s, ownByte1 i s].take (rom.get i.opcode).operandWidth = i.operand := by
  rw [← beq_iff_eq.1 h, ownBytes_take]

/-! ### The resolved value -/

theorem resolvedValue_ne_none_iff {m : Mode} {b0 b1 : Byte} {o : Word} :
    resolvedValue m b0 b1 o ≠ none ↔ m = .relative ∨ m.width = 2 := by
  cases m <;> simp [resolvedValue, Mode.width]

theorem resolvedValue_of_width_two {m : Mode} (h : m.width = 2) (b0 b1 : Byte) (o : Word) :
    resolvedValue m b0 b1 o = some (wordOf b0 b1) := by
  cases m <;> simp_all [resolvedValue, Mode.width]

/-- Settles O41: the resolved value of an undefined byte is absent, that of a valid record the one of its mode. -/
theorem resolvedValueOfEachMode : Obligations.ResolvedValueOfEachMode := by
  intro i s t d h hd
  obtain ⟨hc, n, hdec⟩ := exec_record h hd
  obtain ⟨-, rfl, -⟩ | ⟨m, -, -, rfl, -⟩ := decodeEntry_cases hdec
  · simp [undefinedRecord]
  · refine ⟨by simpa [validRecord] using resolvedValue_ne_none_iff, fun _ hrel => ?_, fun _ htwo => ?_⟩
    · have hmode : (s.optab.get i.opcode).mode = .relative := hrel
      refine ⟨ownByte0 i s, relativeTarget s.offsetWord (ownByte0 i s), ?_, ?_, ?_⟩
      · simp [validRecord, hmode, operandBytes, Mode.width]
      · simp [validRecord, hmode, resolvedValue]
      · rw [relativeTarget_toNat, offsetWord_toNat hc]
    · have hwidth : (s.optab.get i.opcode).mode.width = 2 := htwo
      refine ⟨ownByte0 i s, ownByte1 i s, wordOf (ownByte0 i s) (ownByte1 i s), ?_, ?_, wordOf_toNat ..⟩
      · simp [validRecord, operandBytes, hwidth]
      · exact resolvedValue_of_width_two hwidth ..

/-! ### What depends on the offset -/

theorem operandText_offset {m : Mode} (h : m ≠ .relative) (b0 b1 : Byte) (o o' : Word) :
    operandText m b0 b1 o = operandText m b0 b1 o' := by
  cases m with
  | relative => exact absurd rfl h
  | _ => rfl

theorem resolvedValue_offset {m : Mode} (h : m ≠ .relative) (b0 b1 : Byte) (o o' : Word) :
    resolvedValue m b0 b1 o = resolvedValue m b0 b1 o' := by
  cases m with
  | relative => exact absurd rfl h
  | _ => rfl

/-- One record at two offsets, with the same operand bytes. -/
theorem decodeEntry_offset {e : OpcodeEntry} (hrel : e.valid = true → e.mode ≠ .relative) {op b0 b1 b0' b1' : Byte}
    (hbytes : [b0, b1].take e.operandWidth = [b0', b1'].take e.operandWidth) {o o' : Word} {c : Bool}
    {d d' : DecodedInstruction} {n n' : Cursor} (h : decodeEntry e op b0 b1 o c = some (d, n))
    (h' : decodeEntry e op b0' b1' o' c = some (d', n')) :
    d.text = d'.text ∧ d.operand = d'.operand ∧ d.resolved = d'.resolved := by
  rw [← decodeEntry_congr hbytes] at h'
  obtain ⟨hv, rfl, -⟩ | ⟨m, hv, hm, rfl, -⟩ := decodeEntry_cases h
  · rw [decodeEntry_invalid hv] at h'
    cases h'
    exact ⟨rfl, rfl, rfl⟩
  · rw [decodeEntry_valid hv hm] at h'
    cases h'
    exact ⟨congrArg (instructionText m) (operandText_offset (hrel hv) ..), rfl, resolvedValue_offset (hrel hv) ..⟩

/-- Settles O45: the operand bytes of both calls are the instruction's own. -/
theorem onlyRelativeDependsOnTheOffset : Obligations.OnlyRelativeDependsOnTheOffset := by
  intro i s s' t u o d e hwf hrel hset h h' hd he
  obtain ⟨-, rfl⟩ := setOffset_eq_some.1 hset
  obtain ⟨-, n, hdec⟩ := exec_record h hd
  obtain ⟨-, n', hdec'⟩ := exec_record h' he
  obtain ⟨hfits, -⟩ := Bool.and_eq_true_iff.1 hwf
  exact decodeEntry_offset hrel ((ownBytes_take_of_fits hfits _).trans (ownBytes_take_of_fits hfits _).symm) hdec hdec'

/-! ### The length of the text -/

theorem instructionText_length (name : String) (m : Mode) (b0 b1 : Byte) (o : Word) :
    (instructionText name (operandText m b0 b1 o)).length ≤ name.length + 8 := by
  cases m <;> simp [operandText, hex4, ← String.length_toList]

theorem rawByteText_length (op : Byte) : (rawByteText op).length = 9 := by
  simp [rawByteText, ← String.length_toList]

/-- The name of a valid well-formed record: three capital letters. -/
theorem name_of_wellformed {e : OpcodeEntry} {m : String} (hw : e.wellformed = true) (hv : e.valid = true)
    (hm : e.mnemonic = .name m) : m.toList.length = 3 ∧ ∀ c ∈ m.toList, c.isUpper = true := by
  rw [OpcodeEntry.wellformed, hv, hm, Bool.and_eq_true] at hw
  exact ⟨beq_iff_eq.1 hw.1, List.all_eq_true.1 hw.2⟩

/-- Settles O44: a name has three characters, and what stands after it at most eight. -/
theorem textLengthBound : Obligations.TextLengthBound := by
  intro i s t d hrom h hd
  obtain ⟨-, n, hdec⟩ := exec_record h hd
  obtain ⟨-, rfl, -⟩ | ⟨m, hv, hm, rfl, -⟩ := decodeEntry_cases hdec
  · have hlength := rawByteText_length i.opcode
    exact ⟨hlength.trans_le (by decide), fun _ => hlength⟩
  · obtain ⟨hname, -⟩ := name_of_wellformed (hrom i.opcode) hv hm
    have hlength := instructionText_length m (s.optab.get i.opcode).mode (ownByte0 i s) (ownByte1 i s) s.offsetWord
    rw [← String.length_toList (s := m), hname] at hlength
    exact ⟨hlength, fun hinv => absurd hinv Bool.false_ne_true⟩

end Sys2Proof.Machine
end

section
/-! PROOFS. Family other, 60_exceptions.md, 42_cycle_annotation.md and 10_state.md: the report of an undefined byte, the
annotation of a line, and the default table (rules R17, R18, R72, R105 to R111, R180, R190, R220). -/

namespace Sys2Proof.Machine

/-! ### The report of an undefined byte -/

/-- Settles O47: the line is the undefined record exactly where the ROM's record is invalid. -/
theorem errorReportedExactlyForInvalidBytes : Obligations.ErrorReportedExactlyForInvalidBytes := by
  intro i s t d h hd
  obtain ⟨hc, d', n, hdec, rfl⟩ := exec_eq_next_iff.1 h
  cases hd
  obtain ⟨hv, rfl, -⟩ | ⟨m, hv, -, rfl, -⟩ := decodeEntry_cases hdec
  · simp [hv, undefinedRecord, DecodedInstruction.errorCode, State.markerText, rawByteText, hex2_eq, offsetWord_toNat hc]
  · simp [hv, validRecord, DecodedInstruction.errorCode, State.markerText, offsetWord_toNat hc]

/-! ### The annotation -/

/-- In a pair the second number is one more than the first. -/
theorem annotate_pair {e : OpcodeEntry} {o : Word} {r : Option Word} {n m : Nat} (h : annotate e o r = .pair n m) :
    m = n + 1 := by
  unfold annotate at h
  split at h
  · cases h
  · split at h <;> cases h <;> rfl
  · cases h; rfl
  · cases h; rfl

/-- Settles O48: an undefined record has no annotation, and a valid one has it where the caller enabled it. -/
theorem annotationOnlyWhenEnabled : Obligations.AnnotationOnlyWhenEnabled := by
  intro i s t d h hd
  obtain ⟨-, n, hdec⟩ := exec_record h hd
  obtain ⟨hv, rfl, -⟩ | ⟨m, hv, -, rfl, -⟩ := decodeEntry_cases hdec
  · simp [hv, undefinedRecord]
  · rcases hcycle : s.cycleEn with _ | _
    · simp [hv, validRecord]
    · simp only [hv, validRecord, if_true, Option.map_some, cyclesText_eq, Option.some.injEq]
      exact ⟨by simp, trivial, fun _ _ => annotate_pair⟩

/-- Where the caller enabled the annotation, a valid named record has that of its flags, its offset and its resolved
value. -/
theorem exec_annotation {i : Instr} {s : State} {e : OpcodeEntry} (hc : s.contract = true) (hcycle : s.cycleEn = true)
    (he : s.optab.get i.opcode = e) (hn : e.named = true) (hv : e.valid = true) :
    ∃ t d, exec i s = .next t ∧ t.record = some d ∧
      d.resolved = resolvedValue e.mode (ownByte0 i s) (ownByte1 i s) s.offsetWord ∧
      d.cycles = some (annotate e s.offsetWord d.resolved) ∧
      d.cyclesText = some (cyclesText (annotate e s.offsetWord d.resolved)) := by
  subst he
  obtain ⟨d, n, hd⟩ := decodeEntry_of_named hn i.opcode (ownByte0 i s) (ownByte1 i s) s.offsetWord s.cycleEn
  refine ⟨_, d, exec_eq_next_iff.2 ⟨hc, d, n, hd, rfl⟩, rfl, ?_⟩
  obtain ⟨hinv, -, -⟩ | ⟨m, -, -, rfl, -⟩ := decodeEntry_cases hd
  · rw [hv] at hinv; cases hinv
  · simp [validRecord, hcycle]

theorem annotate_no_flag {e : OpcodeEntry} (h : e.flags = ⟨false, false⟩) (o : Word) (r : Option Word) :
    annotate e o r = .single e.baseCycles := by
  simp [annotate, h]

theorem annotate_one_flag {e : OpcodeEntry} (h : e.flags = ⟨true, false⟩ ∨ e.flags = ⟨false, true⟩) (o : Word)
    (r : Option Word) : annotate e o r = .pair e.baseCycles (e.baseCycles + 1) := by
  obtain h | h := h <;> simp [annotate, h]

theorem annotate_both_flags {e : OpcodeEntry} (h : e.flags = ⟨true, true⟩) (o : Word) (r : Option Word) :
    annotate e o r = if crossesResolved (addressAfter o e.mode.width) r then .pair (e.baseCycles + 1) (e.baseCycles + 2)
      else .pair e.baseCycles (e.baseCycles + 1) := by
  simp [annotate, h]

/-- Settles O49: no flag, no page test. -/
theorem noFlagAnnotation : Obligations.NoFlagAnnotation := by
  constructor
  · intro i s hc hcycle hn hv hf
    obtain ⟨t, d, ht, hd, -, hcycles, htext⟩ := exec_annotation hc hcycle rfl hn hv
    rw [annotate_no_flag hf] at hcycles htext
    exact ⟨t, d, ht, hd, hcycles, htext⟩
  · intro b s ⟨_, hadc, _⟩ hc hcycle
    obtain ⟨t, d, ht, hd, -, -, htext⟩ := exec_annotation (i := .adcImm b) hc hcycle hadc rfl rfl
    rw [annotate_no_flag rfl] at htext
    exact ⟨t, d, ht, hd, htext⟩

/-- Settles O50: one flag, no page test. -/
theorem oneFlagAnnotation : Obligations.OneFlagAnnotation := by
  constructor
  · intro i s hc hcycle hn hv hf
    obtain ⟨t, d, ht, hd, -, hcycles, htext⟩ := exec_annotation hc hcycle rfl hn hv
    rw [annotate_one_flag hf] at hcycles htext
    exact ⟨t, d, ht, hd, hcycles, htext⟩
  · intro w s ⟨_, _, _, hlda, _⟩ hc hcycle
    obtain ⟨t, d, ht, hd, -, -, htext⟩ := exec_annotation (i := .ldaAbx w) hc hcycle hlda rfl rfl
    rw [annotate_one_flag (.inl rfl)] at htext
    exact ⟨t, d, ht, hd, htext⟩

/-- The page test of a call, on numbers. -/
theorem crosses_addressAfter_iff {s : State} (hc : s.contract = true) (width : Nat) (v : Word) :
    crosses (addressAfter s.offsetWord width) v = true ↔ Spec.crosses (Spec.after s.offset.toNat width) v.toNat := by
  rw [crosses_iff, addressAfter_eq, offsetWord_toNat hc, Spec.crosses]

/-- Settles O51: the page test decides; without a resolved value it finds the pages equal. -/
theorem bothFlagsAnnotation : Obligations.BothFlagsAnnotation := by
  constructor
  · intro i s hc hcycle hn hv hf
    obtain ⟨t, d, ht, hd, -, hcycles, -⟩ := exec_annotation hc hcycle rfl hn hv
    rw [annotate_both_flags hf] at hcycles
    refine ⟨t, d, ht, hd, fun v hres => ?_, fun hres => by rw [hcycles, hres]; rfl⟩
    rw [hcycles, hres, crossesResolved]
    exact ⟨fun h => by rw [if_pos ((crosses_addressAfter_iff hc _ v).2 h)],
      fun h => by rw [if_neg (mt (crosses_addressAfter_iff hc _ v).1 h)]⟩
  · intro b s ⟨_, _, _, _, hbeq⟩ hc hcycle
    obtain ⟨t, d, ht, hd, hres, -, htext⟩ := exec_annotation (i := .beq b) hc hcycle hbeq rfl rfl
    have htarget : d.resolved = some (relativeTarget s.offsetWord b) := hres
    rw [annotate_both_flags rfl, htarget, crossesResolved] at htext
    have htest := crosses_addressAfter_iff hc 1 (relativeTarget s.offsetWord b)
    rw [relativeTarget_eq, offsetWord_toNat hc] at htest
    exact ⟨t, d, ht, hd, fun h => by rw [htext, Mode.width, if_pos (htest.2 h)]; decide,
      fun h => by rw [htext, Mode.width, if_neg (mt htest.1 h)]; decide⟩

/-! ### The default table -/

/-- Settles O5: the five records, looked up. -/
theorem resetRomIsPinned : Obligations.ResetRomIsPinned := ⟨rfl, rfl, rfl, rfl, rfl⟩

/-- Settles O6: field by field. -/
theorem resetLeavesOnlyTheRom : Obligations.ResetLeavesOnlyTheRom :=
  ⟨rfl, romWellformed_default, rfl, rfl, rfl, rfl, rfl⟩

/-- Settles O8: the table is counted. -/
theorem defaultTableCensus : Obligations.DefaultTableCensus := by
  unfold Obligations.DefaultTableCensus; decide +kernel

/-- Settles O9: the list and the table, byte by byte. -/
theorem undefinedBytesOfTheTable : Obligations.UndefinedBytesOfTheTable := by
  unfold Obligations.UndefinedBytesOfTheTable; decide +kernel

/-- Every valid record of the default table holds one of the 56 names. -/
theorem defaultOptab_mnemonic (b : Byte) (h : (defaultOptab.get b).valid = true) :
    ∃ t ∈ Spec.mnemonics, (defaultOptab.get b).mnemonic = .name t := by
  revert b; decide +kernel

/-- Settles O10: the codes listed, the flags by their four sets, the ranks counted. -/
theorem packedCodes : Obligations.PackedCodes :=
  ⟨rfl, fun ⟨p, b⟩ => by cases p <;> cases b <;> rfl, by decide +kernel, by decide +kernel, by decide +kernel, rfl,
    defaultOptab_mnemonic⟩

end Sys2Proof.Machine
end

section
/-! PROOFS. Family other, 30_encoding.md and 41_addressing_modes.md: the printed text of a line determines the instruction
(rule R61). A text splits into the name and the operand text; the operand text, its digits erased, shows the mode, and its
digits show the operand; and under the default table the name and the mode belong to one opcode. -/

namespace Sys2Proof.Machine

/-! ### The operand bytes, from the operand text -/

theorem hex2_inj {v v' : Byte} : hex2 v = hex2 v' ↔ v = v' := ⟨hex2_injective, congrArg hex2⟩

theorem hex4_inj {w w' : Word} : hex4 w = hex4 w' ↔ w = w' := ⟨hex4_injective, congrArg hex4⟩

theorem relativeTarget_inj {o : Word} {b b' : Byte} : relativeTarget o b = relativeTarget o b' ↔ b = b' :=
  ⟨relativeTarget_injective, congrArg (relativeTarget o)⟩

theorem wordOf_inj {lo hi lo' hi' : Byte} : wordOf lo hi = wordOf lo' hi' ↔ lo = lo' ∧ hi = hi' := by
  constructor
  · intro h
    have hlow := congrArg lowByte h
    have hhigh := congrArg highByte h
    rw [lowByte_wordOf, lowByte_wordOf] at hlow
    rw [highByte_wordOf, highByte_wordOf] at hhigh
    exact ⟨hlow, hhigh⟩
  · rintro ⟨rfl, rfl⟩
    rfl

/-- In one mode at one offset the operand text shows every operand byte. -/
theorem operandBytes_of_operandText {m : Mode} {b0 b1 b0' b1' : Byte} {o : Word}
    (h : operandText m b0 b1 o = operandText m b0' b1' o) : operandBytes m b0 b1 = operandBytes m b0' b1' := by
  cases m <;> simp_all [operandText, operandBytes, Mode.width, hex2_inj, hex4_inj, relativeTarget_inj, wordOf_inj]

/-! ### The mode, from the operand text -/

/-- A character of a text, a hexadecimal digit erased to `0`. -/
def eraseDigit (c : Char) : Char := if "0123456789ABCDEF".toList.contains c then '0' else c

@[simp] theorem eraseDigit_hexDigit (n : BitVec 4) : eraseDigit (hexDigit n) = '0' := by
  revert n; decide +kernel

/-- The characters of an operand text with its digits erased. -/
def textShape (text : Option String) : Option (List Char) := text.map fun t => t.toList.map eraseDigit

/-- The shape of an operand text does not depend on the operand. -/
theorem textShape_operandText (m : Mode) (b0 b1 : Byte) (o : Word) :
    textShape (operandText m b0 b1 o) = textShape (operandText m 0 0 0) := by
  cases m <;> simp [textShape, operandText, hex4]

/-- A mode as far as its operand text shows it: Relative is printed as Absolute. -/
def printedMode : Mode → Mode
  | .relative => .absolute
  | m => m

/-- The modes that are told apart by the shape of their operand text. -/
def printedModes : List Mode := [.immediate, .absolute, .zeroPage, .implied, .indirectAbsolute, .absoluteIndexedX,
  .absoluteIndexedY, .zeroPageIndexedX, .zeroPageIndexedY, .indexedIndirectX, .indirectIndexedY, .accumulator]

/-- The printed mode is found by the shape. -/
theorem find?_printedModes (m : Mode) :
    printedModes.find? (fun n => textShape (operandText n 0 0 0) == textShape (operandText m 0 0 0)) =
      some (printedMode m) := by
  cases m <;> decide +kernel

theorem printedMode_of_operandText {m m' : Mode} {b0 b1 b0' b1' : Byte} {o : Word}
    (h : operandText m b0 b1 o = operandText m' b0' b1' o) : printedMode m = printedMode m' := by
  have hshape := congrArg textShape h
  rw [textShape_operandText m, textShape_operandText m'] at hshape
  have hfind := find?_printedModes m
  rw [hshape, find?_printedModes m'] at hfind
  exact (Option.some.inj hfind).symm

/-! ### The name and the operand text, from the text -/

/-- What stands after the name. -/
theorem toList_instructionText (name : String) (t : Option String) :
    (instructionText name t).toList = name.toList ++ t.elim [] (fun u => ' ' :: u.toList) := by
  cases t <;> simp

/-- Texts with names of one length split in one way. -/
theorem instructionText_inj {name name' : String} {t t' : Option String}
    (hlen : name.toList.length = name'.toList.length) (h : instructionText name t = instructionText name' t') :
    name = name' ∧ t = t' := by
  have hlist := congrArg String.toList h
  rw [toList_instructionText, toList_instructionText] at hlist
  obtain ⟨hname, htail⟩ := List.append_inj hlist hlen
  refine ⟨String.toList_inj.1 hname, ?_⟩
  match t, t', htail with
  | none, none, _ => rfl
  | some _, some _, htail => exact congrArg some (String.toList_inj.1 (List.cons.inj htail).2)

/-- A text that begins with a name of capital letters is not that of an undefined byte, which begins with a point. -/
theorem instructionText_ne_rawByteText {e : OpcodeEntry} {m : String} (hw : e.wellformed = true) (hv : e.valid = true)
    (hm : e.mnemonic = .name m) (t : Option String) (op : Byte) : instructionText m t ≠ rawByteText op := by
  intro h
  obtain ⟨hlen, hupper⟩ := name_of_wellformed hw hv hm
  have hlist := congrArg String.toList h
  rw [toList_instructionText] at hlist
  rcases hname : m.toList with _ | ⟨c, cs⟩
  · rw [hname] at hlen; cases hlen
  · have hc := hupper c (hname ▸ List.mem_cons_self)
    rw [hname] at hlist
    obtain ⟨rfl, -⟩ : c = '.' ∧ _ := by simpa [rawByteText] using hlist
    exact absurd hc (by decide)

theorem rawByteText_injective {op op' : Byte} (h : rawByteText op = rawByteText op') : op = op' := by
  simpa [rawByteText, hex2_inj] using h

/-! ### The opcode, from the name and the mode -/

/-- The name and the printed mode of a record as one number, which is fast to compare. -/
def printedKey (e : OpcodeEntry) : Nat :=
  match e.mnemonic with
  | .name t => (t.toList.map Char.toNat).foldl (fun n c => n * 256 + c) (printedMode e.mode).code
  | .illegal => 0

theorem printedKey_congr {e e' : OpcodeEntry} (hm : e.mnemonic = e'.mnemonic)
    (hmode : printedMode e.mode = printedMode e'.mode) : printedKey e = printedKey e' := by
  rw [printedKey, printedKey, hm, hmode]

/-- The valid opcode bytes of the default table. -/
def validBytes : List Byte := ((List.range 256).map (BitVec.ofNat 8)).filter fun b => (defaultOptab.get b).valid

theorem mem_validBytes {b : Byte} (h : (defaultOptab.get b).valid = true) : b ∈ validBytes :=
  List.mem_filter.2 ⟨List.mem_map.2 ⟨b.toNat, List.mem_range.2 b.isLt, by simp⟩, h⟩

theorem nodup_printedKeys : (validBytes.map fun b => printedKey (defaultOptab.get b)).Nodup := by
  decide +kernel

/-- No two valid opcodes of the default table have one name and one printed mode. -/
theorem opcode_of_name_mode {a b : Byte} (ha : (defaultOptab.get a).valid = true) (hb : (defaultOptab.get b).valid = true)
    (hm : (defaultOptab.get a).mnemonic = (defaultOptab.get b).mnemonic)
    (hmode : printedMode (defaultOptab.get a).mode = printedMode (defaultOptab.get b).mode) : a = b :=
  List.inj_on_of_nodup_map nodup_printedKeys (mem_validBytes ha) (mem_validBytes hb) (printedKey_congr hm hmode)

/-! ### The statement -/

/-- Under the default table, at one offset, the text of a line determines the opcode and the operand. -/
theorem opcode_operand_of_text {op op' b0 b1 b0' b1' : Byte} {o : Word} {c : Bool} {d d' : DecodedInstruction}
    {n n' : Cursor} (h : decodeEntry (defaultOptab.get op) op b0 b1 o c = some (d, n))
    (h' : decodeEntry (defaultOptab.get op') op' b0' b1' o c = some (d', n')) (htext : d.text = d'.text) :
    op = op' ∧ d.operand = d'.operand := by
  have hw := romWellformed_default op
  have hw' := romWellformed_default op'
  obtain ⟨-, rfl, -⟩ | ⟨m, hv, hm, rfl, -⟩ := decodeEntry_cases h <;>
    obtain ⟨-, rfl, -⟩ | ⟨m', hv', hm', rfl, -⟩ := decodeEntry_cases h'
  · exact ⟨rawByteText_injective htext, rfl⟩
  · exact absurd htext.symm (instructionText_ne_rawByteText hw' hv' hm' _ _)
  · exact absurd htext (instructionText_ne_rawByteText hw hv hm _ _)
  · have hlen := (name_of_wellformed hw hv hm).1.trans (name_of_wellformed hw' hv' hm').1.symm
    obtain ⟨rfl, hoperand⟩ := instructionText_inj hlen htext
    obtain rfl := opcode_of_name_mode hv hv' (hm.trans hm'.symm) (printedMode_of_operandText hoperand)
    exact ⟨rfl, operandBytes_of_operandText hoperand⟩

/-- Under the default table the operand of an instruction's line is the instruction's own. -/
theorem operand_of_decodeEntry {i : Instr} {s : State} {o : Word} {c : Bool} {d : DecodedInstruction} {n : Cursor}
    (h : decodeEntry (defaultOptab.get i.opcode) i.opcode (ownByte0 i s) (ownByte1 i s) o c = some (d, n)) :
    d.operand = i.operand := by
  obtain ⟨hfits, -⟩ := Bool.and_eq_true_iff.1 (wellFormed_default i)
  rw [decodeEntry_operand h, ownBytes_take_of_fits hfits]

/-- Settles O43: the text determines the opcode and the operand of the line, and these are the instruction. -/
theorem printedTextDeterminesInstruction : Obligations.PrintedTextDeterminesInstruction := by
  intro i j s t u d e hrom h h' hd he htext
  obtain ⟨-, n, hdec⟩ := exec_record h hd
  obtain ⟨-, n', hdec'⟩ := exec_record h' he
  rw [show s.optab = defaultOptab from hrom] at hdec hdec'
  obtain ⟨hop, hoperand⟩ := opcode_operand_of_text hdec hdec' htext
  exact instr_ext hop (by rw [← operand_of_decodeEntry hdec, hoperand, operand_of_decodeEntry hdec'])

end Sys2Proof.Machine
end
